-- ==== Sys2Proof/Word.lean ====
section
/-! DEFINITION. The word types of OWE: 32-bit registers and bytes (spec/10_state.md, spec/20_memory.md R80). -/

namespace Sys2Proof

/-- One byte of host memory, or one byte register. -/
abbrev Byte := BitVec 8

/-- One 32-bit register of the OWE register block (30_encoding.md R104), or an operand. -/
abbrev Word := BitVec 32

end Sys2Proof
end

