-- ==== Sys2Proof/Syntax.lean ====
section
/-! DEFINITION. The instructions of OWE: one constructor per row of spec/opcode_table.json. -/

namespace Sys2Proof

/-- The eight commands of 30_encoding.md R101 and the three events of R111. A command carries no operand of its own:
its operands are the registers ARG0 to ARG2, which are state (R103, R121). An event word carries its pin bit. -/
inductive Instr where
  /-- OBJINIT, 43_lifecycle.md R250. -/
  | objinit
  /-- START, 43_lifecycle.md R251. -/
  | start
  /-- STOP, 43_lifecycle.md R253. -/
  | stop
  /-- RESET, 41_bit_io.md R160. -/
  | reset
  /-- READ, 41_bit_io.md R163. -/
  | read
  /-- WRITE, 41_bit_io.md R168. -/
  | write
  /-- SEARCH, 42_search_rom.md R200. -/
  | search
  /-- CRC8, 40_crc8.md R141. -/
  | crc8
  /-- MASTER, 41_bit_io.md R155; a legal word has pin = 0 (30_encoding.md R111). -/
  | master (pin : Bool)
  /-- SAMPLE, 41_bit_io.md R155; pin is the bus level at the sample point, true = high (R153). -/
  | sample (pin : Bool)
  /-- PULLUP_END, 41_bit_io.md R167; a legal word has pin = 0 (30_encoding.md R111). -/
  | pullupEnd (pin : Bool)
  deriving DecidableEq, Repr

end Sys2Proof
end

