-- ==== Sys2Proof/WellFormed.lean ====
section
/-! DEFINITION. Which instructions are legal words: the pin rule of 30_encoding.md R111. -/

namespace Sys2Proof

/-- "For MASTER and PULLUP_END it must be 0" (30_encoding.md R111). Every command is legal. -/
def Instr.wellFormed : Instr → Bool
  | .objinit => true
  | .start => true
  | .stop => true
  | .reset => true
  | .read => true
  | .write => true
  | .search => true
  | .crc8 => true
  | .master pin => !pin
  | .sample _ => true
  | .pullupEnd pin => !pin

end Sys2Proof
end

