-- ==== Sys2Proof/Decode.lean ====
section
/-! DEFINITION. The decoder of both ports (the CMD register's 32-bit word, the event port's 3-bit word), total and
rejecting by name, and the encoder written from the same tables (30_encoding.md R101, R111, R120, R121). -/

namespace Sys2Proof

/-- A word at one of the two ports an instruction can arrive at: the CMD register or the event port (30_encoding.md
R100, format E being the event port). -/
inductive PortWord where
  | command (w : Word)
  | event (w : BitVec 3)
  deriving DecidableEq, Repr

/-- Why a word is no instruction. -/
inductive Reject where
  /-- A CMD word outside 1 to 8 (30_encoding.md R120): OWE raises Fault(RESERVED_OPCODE, CMD[7:0]). -/
  | reservedOpcode (info : Byte)
  /-- Event code 0: "no event" (30_encoding.md R111). -/
  | noEvent
  /-- A MASTER word with pin = 1 (30_encoding.md R111; 93 U6). -/
  | masterPinSet
  /-- A PULLUP_END word with pin = 1 (30_encoding.md R111; 93 U6). -/
  | pullupEndPinSet
  deriving DecidableEq, Repr

/-- The opcode table of 30_encoding.md R101: the whole CMD word and the command it selects. -/
def commandTable : List (Word × Instr) :=
  [(0x00000001, .objinit), (0x00000002, .start), (0x00000003, .stop), (0x00000004, .reset),
   (0x00000005, .read), (0x00000006, .write), (0x00000007, .search), (0x00000008, .crc8)]

/-- "A CMD word is decoded exactly": it selects a command only if it equals a table word (30_encoding.md R101). -/
def decodeCommand (w : Word) : Except Reject Instr :=
  match commandTable.find? (fun row => row.1 == w) with
  | some row => .ok row.2
  | none => .error (.reservedOpcode (w.setWidth 8))

/-- The event word: code in bits [1:0], pin in bit [2] (30_encoding.md R111). -/
def decodeEvent (w : BitVec 3) : Except Reject Instr :=
  let pin := w.getLsbD 2
  match (w.extractLsb' 0 2).toNat with
  | 0 => .error .noEvent
  | 1 => if pin then .error .masterPinSet else .ok (.master false)
  | 2 => .ok (.sample pin)
  | _ => if pin then .error .pullupEndPinSet else .ok (.pullupEnd false)

/-- The decoder: total on every word of either port. -/
def decode : PortWord → Except Reject Instr
  | .command w => decodeCommand w
  | .event w => decodeEvent w

/-- An event word from its two fields (30_encoding.md R111). -/
def eventWord (code : BitVec 2) (pin : Bool) : PortWord :=
  .event (BitVec.ofBool pin ++ code)

/-- The encoder: the port and the word of an instruction (30_encoding.md R101, R111). -/
def encode : Instr → PortWord
  | .objinit => .command 0x00000001
  | .start => .command 0x00000002
  | .stop => .command 0x00000003
  | .reset => .command 0x00000004
  | .read => .command 0x00000005
  | .write => .command 0x00000006
  | .search => .command 0x00000007
  | .crc8 => .command 0x00000008
  | .master pin => eventWord 1 pin
  | .sample pin => eventWord 2 pin
  | .pullupEnd pin => eventWord 3 pin

/-- What FAULT.info records for a command or an event: its opcode or its event code (60_exceptions.md R270). -/
def Instr.infoCode : Instr → Byte
  | .objinit => 0x1
  | .start => 0x2
  | .stop => 0x3
  | .reset => 0x4
  | .read => 0x5
  | .write => 0x6
  | .search => 0x7
  | .crc8 => 0x8
  | .master _ => 1
  | .sample _ => 2
  | .pullupEnd _ => 3

/-- A row's word as the opcode table numbers it: a row of at most 8 bits is an event word (3 bits in the table), any
other a CMD word (log 18). A number with a bit above its port's width is no word of that port. -/
def portWord (nbits w : Nat) : Option PortWord :=
  if nbits ≤ 8 then
    if w < 8 then some (.event (BitVec.ofNat 3 w)) else none
  else
    if w < 2 ^ 32 then some (.command (BitVec.ofNat 32 w)) else none

/-- The instruction the decoder reads from an opcode-table row's word. -/
def decodeTableWord (nbits w : Nat) : Option Instr :=
  match portWord nbits w with
  | none => none
  | some p =>
    match decode p with
    | .ok i => some i
    | .error _ => none

end Sys2Proof
end

