-- ==== Sys2Proof/Machine/Crc.lean ====
section
/-! DEFINITION. The CRC-8 generator: the bit-serial procedure of 40_crc8.md R140. -/

namespace Sys2Proof.Machine

/-- The polynomial x⁸+x⁵+x⁴+1 without its x⁸ term, bits reversed (40_crc8.md R140). -/
def crcPoly : Byte := 0x8C

/-- One inner step of R140: mix ← (crc ^ d) & 1, shift, and the polynomial where mix = 1. -/
def crcStep (crc d : Byte) : Byte :=
  if (crc ^^^ d).getLsbD 0 then (crc >>> 1) ^^^ crcPoly else crc >>> 1

/-- `n` inner steps of R140, the least significant bit of `d` first. -/
def crcBits : Nat → Byte → Byte → Byte
  | 0, crc, _ => crc
  | n + 1, crc, d => crcBits n (crcStep crc d) (d >>> 1)

/-- The outer step of R140: one byte. -/
def crcByte (crc d : Byte) : Byte := crcBits 8 crc d

/-- CRC8 of a byte string: initial value 0, bytes in order, no final XOR (40_crc8.md R140). -/
def crc8 (bytes : List Byte) : Byte := bytes.foldl crcByte 0

end Sys2Proof.Machine
end

