-- ==== Sys2Proof/Config.lean ====
section
/-! DEFINITION. The implementation parameters of 00_scope.md R6, the open values of the spec as free values, and the
protocol byte constants of 30_encoding.md R126. -/

namespace Sys2Proof

/-- The parameters of 00_scope.md R6 that a rule reads. A model takes each as an argument (93 U19), so State holds
them and no step changes them (log 8). `Valid` is taken from State.memMap (log 7). -/
structure Params where
  /-- STRONG_PULLUP: whether the optional strong pull-up feature exists. -/
  strongPullup : Bool
  /-- COUNT_BITS: width of STATUS.bytes and of the READ and WRITE count. -/
  countBits : Nat
  /-- COUNT_MAX: the largest legal READ or WRITE count, and CRC8 length. -/
  countMax : Nat
  /-- DEV_BITS: width of SEARCH.devices_found and of the SEARCH max operand. -/
  devBits : Nat
  /-- DEV_MAX: the largest legal SEARCH max_rom_count. -/
  devMax : Nat
  /-- ADDR_W: width of a host buffer address. -/
  addrW : Nat
  /-- PU_BITS: width of the pull-up duration operand. -/
  puBits : Nat
  /-- PG_CHANNELS: how many pulse-generator channels a channel index may name. -/
  pgChannels : Nat
  /-- CMD_SEARCH_ROM: the command byte a search pass sends. -/
  cmdSearchRom : Byte
  /-- OWE_BASE: base address of the register block (30_encoding.md R104). -/
  oweBase : Word
  deriving DecidableEq, Repr

/-- OWE_BASE, the base address of the register block: OPEN (00_scope.md R6). A free value: no body, so nothing can be
proved of it (log 27). -/
opaque Config.oweBase : Word

/-- The defaults of 00_scope.md R6; OWE_BASE has none and is a free value (log 27). CMD_SEARCH_ROM = 0xF0 is general knowledge (93 G1; PRESUMED, log 23). -/
def Params.standard : Params where
  strongPullup := true
  countBits := 16
  countMax := 65535
  devBits := 8
  devMax := 255
  addrW := 32
  puBits := 32
  pgChannels := 4
  cmdSearchRom := 0xF0
  oweBase := Config.oweBase

/-- The bounds the register layout puts on the parameters: COUNT_BITS at most 16 (10_state.md R39), DEV_BITS at most
16 (R54), and a 32-bit ARG0 and ARG2 (log 8). A count or a maximum of 1 is legal, so that a search pass can send its
command byte. -/
def Params.ok (p : Params) : Bool :=
  decide (p.countBits ≤ 16) && decide (1 ≤ p.countMax) && decide (p.countMax < 2 ^ p.countBits) &&
  decide (p.devBits ≤ 16) && decide (1 ≤ p.devMax) && decide (p.devMax < 2 ^ p.devBits) &&
  decide (p.addrW ≤ 32) && decide (p.puBits ≤ 32)

/-- The slot timings of 70_reset_and_hazards.md R316, in microseconds. No step reads them (92 D34; log 20). -/
structure SlotTiming where
  resetLow : Nat
  presenceSample : Nat
  resetSlot : Nat
  bitSlot : Nat
  write0Low : Nat
  write1Low : Nat
  readLow : Nat
  readSample : Nat
  deriving DecidableEq, Repr

/-- The standard-speed defaults of R316 (general knowledge, 93 G4; PRESUMED, log 20). -/
def SlotTiming.standard : SlotTiming where
  resetLow := 480
  presenceSample := 550
  resetSlot := 960
  bitSlot := 70
  write0Low := 60
  write1Low := 6
  readLow := 6
  readSample := 15

/-- The constraints in the last column of R316's table. -/
def SlotTiming.ok (t : SlotTiming) : Bool :=
  decide (t.resetLow < t.presenceSample) && decide (t.presenceSample < t.resetSlot) &&
  decide (t.write1Low < t.write0Low) && decide (t.write0Low < t.bitSlot) &&
  decide (t.readLow < t.readSample) && decide (t.readSample < t.bitSlot)

/-- The pin level of the k-th SAMPLE the model's own PG delivers: a draw from the BUS oracle (41_bit_io.md R153,
93 U10). A free value: no body, so nothing can be proved of it (log 4). -/
opaque Config.pinDraw : Nat → Bool

/-- PU_TICK, the time unit of the pull-up duration: OPEN (00_scope.md R6, log 27), here in microseconds. -/
opaque Config.puTick : Nat

/-! The protocol byte constants of 30_encoding.md R126 (general knowledge, 93 G2; PRESUMED, log 23). -/

def Config.readRom : Byte := 0x33
def Config.searchRom : Byte := 0xF0
def Config.matchRom : Byte := 0x55
def Config.skipRom : Byte := 0xCC
def Config.convertT : Byte := 0x44
def Config.readScratchpad : Byte := 0xBE

end Sys2Proof
end

