-- ==== Sys2Proof/Machine/State.lean ====
section
/-! DEFINITION. The state of OWE (10_state.md R31: every register and internal register it names), of the agents
around it (host memory, PG, PUT), the inputs that arrive, the reasons a step can stop, and power-on reset. -/

namespace Sys2Proof.Machine

/-- STATUS.state (10_state.md R32). -/
inductive DriverState where
  | uninit
  | stop
  | ready
  | pullUp
  deriving DecidableEq, Repr

/-- STATUS.op, the BSM operation in flight (10_state.md R38). -/
inductive BsmOp where
  | none
  | reset
  | read
  | write
  | triplet
  | pullup
  deriving DecidableEq, Repr

/-- PGCTL.next_low, the master's low pulse in a slot (10_state.md R45, 41_bit_io.md R154). -/
inductive LowPulse where
  | none
  | resetLow
  | readLow
  | w0Low
  | w1Low
  deriving DecidableEq, Repr

/-- SEARCH.kind (10_state.md R48). -/
inductive PassKind where
  | first
  | next
  deriving DecidableEq, Repr

/-- SEARCH.result (10_state.md R49). -/
inductive PassResult where
  | success
  | last
  | error
  deriving DecidableEq, Repr

/-- SEARCH.bit_step (10_state.md R50): the slot of the triplet in progress. -/
inductive BitStep where
  | slotA
  | slotB
  | slotW
  deriving DecidableEq, Repr

/-- SEARCH.phase (10_state.md R53). -/
inductive SearchPhase where
  | idle
  | reset
  | cmd
  | triplet
  deriving DecidableEq, Repr

/-- FAULT.cause (60_exceptions.md R270). -/
inductive FaultCause where
  | none
  | reservedOpcode
  | badState
  | busy
  | badCount
  | badBuffer
  | badConfig
  | badMax
  | spuriousEvent
  deriving DecidableEq, Repr

/-- `wsrc`, where a WRITE's bytes come from (10_state.md R46): 0 = host memory, 1 = CMD_SEARCH_ROM. -/
inductive WriteSource where
  | memory
  | searchRom
  deriving DecidableEq, Repr

/-- STATUS (10_state.md R32 to R39). -/
structure Status where
  state : DriverState
  bit : BitVec 3
  finalTimeslot : Bool
  needPullup : Bool
  slavePresent : Bool
  op : BsmOp
  waiter : Bool
  bytes : BitVec 16
  deriving DecidableEq, Repr

/-- SEARCH (10_state.md R47 to R54). bitBuf bit 0 is A, bit 1 is B (R51). -/
structure SearchReg where
  singleDevice : Bool
  kind : PassKind
  result : PassResult
  bitStep : BitStep
  bitBuf : BitVec 2
  rombit : BitVec 6
  phase : SearchPhase
  devicesFound : BitVec 16
  deriving DecidableEq, Repr

/-- BRANCH (10_state.md R55): two 8-bit two's complement markers, −1 = 0xFF. -/
structure BranchReg where
  lastZero : BitVec 8
  prevZero : BitVec 8
  deriving DecidableEq, Repr

/-- FAULT (10_state.md R43). -/
structure FaultReg where
  valid : Bool
  cause : FaultCause
  info : Byte
  deriving DecidableEq, Repr

/-- PGCTL (10_state.md R45). periodSel: true = T_RESET_SLOT; sampleSel: true = T_PRESENCE_SAMPLE. -/
structure PgCtl where
  run : Bool
  periodSel : Bool
  nextLow : LowPulse
  sampleEn : Bool
  sampleSel : Bool
  puAsserted : Bool
  deriving DecidableEq, Repr

/-- The pulse generator's own state, as its contract needs it (41_bit_io.md R150 to R152, 60_exceptions.md R285; log 3,
log 19): whether a slot has begun whose sample point has not passed, and what was latched at that slot's boundary. -/
structure PulseGen where
  slotOpen : Bool
  slotLow : LowPulse
  slotPeriod : Bool
  deriving DecidableEq, Repr

/-- One region of host memory the platform admits, as Nat address and size (20_memory.md R87, R89; log 7). A region may
hold addresses of the register block, and OWE's own accesses there reach host memory (DESIGN CHOICE; log 29). -/
structure Region where
  base : Nat
  size : Nat
  deriving DecidableEq, Repr

/-- Host data memory: the bytes that differ from what an unwritten byte reads as, addresses strictly rising. -/
abbrev Memory := List Host.Cell

/-- The registers of the map of 30_encoding.md R104. -/
inductive Reg where
  | cmd
  | arg0
  | arg1
  | arg2
  | result
  | status
  | search
  | branch
  | romLo
  | romHi
  | prevLo
  | prevHi
  | fault
  | config
  | pgctl
  deriving DecidableEq, Repr

/-- Which host acts, by a number: there are as many of them as there are numbers (60_exceptions.md R287; log 30). -/
abbrev HostId := Nat

/-- The agents that are stuck, which have no step any more: the hosts that made a register access OWE does not admit,
each once, the latest first (20_memory.md R84, 93 U12; log 10), and BSM with its SRC after a byte of the buffer was
withdrawn (R87, 93 U5; log 9). -/
structure StuckAgents where
  hosts : List HostId
  bsm : Bool
  deriving DecidableEq, Repr

/-- How a host program's run ended, when the host executed HALT (70_reset_and_hazards.md R320). A stuck state and a hang are
ends without a HALT. -/
inductive RunEnd where
  /-- Every condition of R320 held. -/
  | success
  /-- A fault was recorded (60_exceptions.md R272). -/
  | faulted
  /-- No fault was recorded and another condition of R320 failed: an operation of another host was in flight. -/
  | unfinished
  deriving DecidableEq, Repr

/-- A host's HALT, and how its program's run ended with it. -/
structure Halt where
  host : HostId
  runEnd : RunEnd
  deriving DecidableEq, Repr

/-- The width of a host access to the register block: 8, 16 or 32 bits, or wider than 32 (20_memory.md R84). -/
inductive AccessSize where
  | byte
  | half
  | word
  | wide
  deriving DecidableEq, Repr

/-- One action of a host (00_scope.md R8, 30_encoding.md R105, R125). `off` is the offset from OWE_BASE: a register
access is named by its offset, a byte access by its address. A host's IF, labels and assignments make no access and are
no actions: the actions listed are those that its control flow performs (30_encoding.md R125; log 32). -/
inductive HostAction where
  /-- A write of `v` to the register block; of a write wider than 32 bits `v` is the low word. -/
  | write (off : BitVec 6) (size : AccessSize) (v : Word)
  /-- A read of the register block. -/
  | read (off : BitVec 6) (size : AccessSize)
  /-- STB: a byte stored in host memory. -/
  | store (a : Word) (b : Byte)
  /-- The host reads a byte of its own memory, as MATCHROM does (30_encoding.md R127). -/
  | load (a : Word)
  /-- HALT: the end of the host's program (30_encoding.md R125, 70_reset_and_hazards.md R320). -/
  | halt
  deriving DecidableEq, Repr

/-- What can arrive at the machine (log 1). -/
inductive Input where
  /-- A host's action. -/
  | host (who : HostId) (act : HostAction)
  /-- An event word at the event port (30_encoding.md R111), whatever PG's and PUT's contracts say. -/
  | event (w : BitVec 3)
  /-- PG or PUT takes its turn, as its contract says (60_exceptions.md R283, R285). -/
  | turn
  /-- The platform changes which host addresses are memory (20_memory.md R87). -/
  | memMap (regions : List Region)
  /-- Power-on reset (70_reset_and_hazards.md R300). -/
  | powerOn
  deriving DecidableEq, Repr

/-- The whole state. -/
structure State where
  /-- The parameters of 00_scope.md R6; no step changes them. -/
  params : Params
  status : Status
  search : SearchReg
  branch : BranchReg
  /-- ROM_HI:ROM_LO (10_state.md R56): ROM bit i is bit i. -/
  rom : BitVec 64
  /-- PREV_HI:PREV_LO (10_state.md R57). -/
  prev : BitVec 64
  result : Word
  fault : FaultReg
  /-- CONFIG[12:0] (10_state.md R44); bit 12 is `bound`. -/
  config : BitVec 13
  pgctl : PgCtl
  arg0 : Word
  arg1 : Word
  arg2 : Word
  /-- The internal registers of 10_state.md R46. -/
  cursor : Word
  acc : Byte
  wbyte : Byte
  wsrc : WriteSource
  puTime : Word
  rbuf : Word
  rmax : BitVec 16
  /-- Host data memory (20_memory.md R80). -/
  mem : Memory
  /-- Which host addresses are memory (20_memory.md R87). -/
  memMap : List Region
  pg : PulseGen
  /-- PUT: none = idle, some d = running since put_start(d) (60_exceptions.md R283). -/
  put : Option Word
  /-- Which agents are stuck (20_memory.md R84, R87). -/
  stuck : StuckAgents
  /-- The host whose command is in flight while waiter = 1, the `current` of `suspend(current)` (30_encoding.md R113);
  with waiter = 0 no rule reads it (log 30). -/
  caller : HostId
  /-- The hosts that have executed HALT, in order, with how their programs' runs ended (70_reset_and_hazards.md R320). -/
  halts : List Halt
  /-- The model's own: the inputs that arrive, the first one first (log 1). -/
  inputs : List Input
  /-- The model's own: how many pins the BUS oracle has supplied (log 4). -/
  draws : Nat
  /-- The model's own: what the host's last register read or load returned (log 16). -/
  readData : Word
  deriving DecidableEq, Repr

/-- Why the machine stops: every one is a situation the spec calls stuck, "the agent named has no step" (93 Part 1). -/
inductive Fault where
  /-- Raised where no agent can move any more and BSM is stuck, since a byte of its buffer was withdrawn after `Valid`
  accepted it (20_memory.md R87, 93 U5). Safe: nothing further happens (log 9). -/
  | byteWithdrawn
  /-- Raised where no agent can move any more, no host is blocked, BSM is not stuck, and a host is stuck since its
  register access that was not a 32-bit access at a listed offset (20_memory.md R84, 93 U12). Safe: nothing further
  happens (log 10). -/
  | accessNotAdmitted
  /-- Raised where no agent can move any more and a host is blocked (60_exceptions.md R271, 93 U16). Safe: nothing
  further happens (log 11). -/
  | hostStuck
  /-- Raised when a host stores to or loads from an address that is no memory of the platform's (log 26). Safe: the spec
  gives such an access no effect. -/
  | hostAccessNotAdmitted
  deriving DecidableEq, Repr

/-- Why a step has no meaning: every one is a situation 93 Part 1 marks `refuse`, "the model must not admit". -/
inductive Refusal where
  /-- An instruction that has no meaning yet, by its mnemonic; raised by no arm of this model. Safe. -/
  | notModelled (mnemonic : String)
  /-- A MASTER or PULLUP_END word with pin = 1 (30_encoding.md R111, R120; 93 U6); raised by their meanings and by the
  event port. Safe (log 12). -/
  | illegalEventWord
  /-- A second agent reads or writes a buffer OWE owns (20_memory.md R86; 93 U4); raised by the host's byte store and
  load. Safe (log 13). -/
  | bufferAliased
  deriving DecidableEq, Repr

/-- STATUS at power-on: UNINIT, no operation, no waiter (10_state.md R60); the rest is unspec (log 5). -/
def Status.powerOn : Status where
  state := .uninit
  bit := 0
  finalTimeslot := false
  needPullup := false
  slavePresent := false
  op := .none
  waiter := false
  bytes := 0

/-- SEARCH at power-on: all unspec (10_state.md R60; log 5). -/
def SearchReg.powerOn : SearchReg where
  singleDevice := false
  kind := .first
  result := .success
  bitStep := .slotA
  bitBuf := 0
  rombit := 0
  phase := .idle
  devicesFound := 0

/-- FAULT at power-on: no fault (10_state.md R60). -/
def FaultReg.clear : FaultReg where
  valid := false
  cause := .none
  info := 0

/-- PGCTL = 0: all outputs idle (10_state.md R60). -/
def PgCtl.idle : PgCtl where
  run := false
  periodSel := false
  nextLow := .none
  sampleEn := false
  sampleSel := false
  puAsserted := false

/-- No agent is stuck. -/
def StuckAgents.none : StuckAgents where
  hosts := []
  bsm := false

/-- PG at power-on: stopped, no slot begun, the bus released (70_reset_and_hazards.md R301; log 19). -/
def PulseGen.idle : PulseGen where
  slotOpen := false
  slotLow := .none
  slotPeriod := false

/-- The machine right after power-on reset: the registers of 10_state.md R60 and 70_reset_and_hazards.md R300, the
agents idle (R301), the default parameters (log 8), host memory with nothing written (log 6), the whole address space
admitted (log 7, log 29), no agent stuck (log 9, log 10), nothing arriving (log 1), no host blocked (log 30), no program ended. Every
field R60 marks "unspec" holds the value of log 5. -/
def State.reset : State where
  params := Params.standard
  status := Status.powerOn
  search := SearchReg.powerOn
  branch := { lastZero := 0, prevZero := 0 }
  rom := 0
  prev := 0
  result := 0
  fault := FaultReg.clear
  config := 0
  pgctl := PgCtl.idle
  arg0 := 0
  arg1 := 0
  arg2 := 0
  cursor := 0
  acc := 0
  wbyte := 0
  wsrc := .memory
  puTime := 0
  rbuf := 0
  rmax := 0
  mem := []
  memMap := [{ base := 0, size := 2 ^ 32 }]
  pg := PulseGen.idle
  put := none
  stuck := StuckAgents.none
  caller := 0
  halts := []
  inputs := []
  draws := 0
  readData := 0

/-- Power-on reset of a machine that runs: every OWE register, PG and PUT to their values of `State.reset`
(70_reset_and_hazards.md R300, R301); the parameters, the host's memory, the stuck and the halted hosts, the inputs still
to come and the model's own fields stay (log 22). A host that was blocked has a step again, since waiter = 0, also where a fault had
left it "never resumed" (60_exceptions.md R271, R289; 93 U16), and a stuck BSM has one again (DESIGN CHOICE: the spec
does not settle it; log 31). -/
def State.powerOn (s : State) : State :=
  { State.reset with
    params := s.params
    mem := s.mem
    memMap := s.memMap
    stuck := { s.stuck with bsm := false }
    halts := s.halts
    inputs := s.inputs
    draws := s.draws
    readData := s.readData }

end Sys2Proof.Machine
end

