-- ==== Sys2Proof/Machine/Memory.lean ====
section
/-! DEFINITION. Host data memory: one byte read, one byte written, in one canonical form (20_memory.md R80, R91). -/

namespace Sys2Proof.Machine

/-- What a byte of host memory that nothing has written reads as. The spec gives none (DESIGN CHOICE, unsafe; log 6). -/
def Memory.unwritten : Byte := 0x00

/-- The byte at address `a`: the value of the latest write there (20_memory.md R91). -/
def Memory.read : Memory → Nat → Byte
  | [], _ => Memory.unwritten
  | (k, b) :: rest, a => if k = a then b else Memory.read rest a

/-- A byte put before `rest`, or nothing where it equals what an unwritten byte reads as. -/
def Memory.cons (a : Nat) (v : Byte) (rest : Memory) : Memory :=
  if v = Memory.unwritten then rest else (a, v) :: rest

/-- Write byte `v` at address `a`, keeping the canonical form. -/
def Memory.write : Memory → Nat → Byte → Memory
  | [], a, v => Memory.cons a v []
  | (k, b) :: rest, a, v =>
    if a < k then Memory.cons a v ((k, b) :: rest)
    else if a = k then Memory.cons a v rest
    else (k, b) :: Memory.write rest a v

/-- Every address of the list is above `lo`, the addresses rise strictly, and no byte equals an unwritten one. -/
def Memory.wfAbove : Memory → Nat → Bool
  | [], _ => true
  | (k, b) :: rest, lo => decide (lo < k) && decide (b ≠ Memory.unwritten) && Memory.wfAbove rest k

/-- The canonical form: strictly rising addresses, no entry equal to what an unlisted address reads as. -/
def Memory.wf : Memory → Bool
  | [] => true
  | (k, b) :: rest => decide (b ≠ Memory.unwritten) && Memory.wfAbove rest k

/-- The region holds the `len` addresses from `a` on. -/
def Region.covers (r : Region) (a len : Nat) : Bool :=
  decide (r.base ≤ a) && decide (a + len ≤ r.base + r.size)

/-- The host memory admits OWE's byte access to address `a` (20_memory.md R87, R89). The register block's addresses are
not set apart here: a region may hold them (DESIGN CHOICE; log 29). -/
def State.byteAdmitted (s : State) (a : Nat) : Bool :=
  decide (a < 2 ^ s.params.addrW) && s.memMap.any (fun r => r.covers a 1)

/-- `Valid(a, len)` of 00_scope.md R6, 20_memory.md R87 and 92 D36: not the null address, no wrap past 2^ADDR_W, and
host memory admits every byte of the range, also where the range runs across several regions. -/
def State.validRange (s : State) (a len : Nat) : Bool :=
  decide (a ≠ 0) && decide (a + len ≤ 2 ^ s.params.addrW) && (List.range len).all (fun k => s.byteAdmitted (a + k))

/-- MemRead(a, 1) (00_scope.md R13): none where the memory no longer admits the byte (93 U5). -/
def State.memRead (s : State) (a : Nat) : Option Byte :=
  if s.byteAdmitted a then some (s.mem.read a) else none

/-- MemWrite(a, 1, v) (00_scope.md R13): none where the memory no longer admits the byte (93 U5). -/
def State.memWrite (s : State) (a : Nat) (v : Byte) : Option State :=
  if s.byteAdmitted a then some { s with mem := s.mem.write a v } else none

/-- Address arithmetic `addr + k` on ADDR_W bits (00_scope.md R12; log 24). -/
def State.addrAdd (s : State) (a k : Nat) : Nat := (a + k) % 2 ^ s.params.addrW

/-- The bytes at a, a + 1, … a + len − 1, in that order. -/
def State.readBytes (s : State) (a : Nat) : Nat → Option (List Byte)
  | 0 => some []
  | len + 1 =>
    match s.memRead a with
    | none => none
    | some b =>
      match State.readBytes s (s.addrAdd a 1) len with
      | none => none
      | some bs => some (b :: bs)

/-- The bytes written at a, a + 1, … in that order. -/
def State.writeBytes (s : State) (a : Nat) : List Byte → Option State
  | [] => some s
  | b :: bs =>
    match s.memWrite a b with
    | none => none
    | some t => State.writeBytes t (t.addrAdd a 1) bs

end Sys2Proof.Machine
end

