-- ==== Sys2Proof/Machine/Operands.lean ====
section
/-! DEFINITION. The operand forms of the commands (30_encoding.md R103), the configuration word's fields (10_state.md
R44), the register map and its packed words (30_encoding.md R104, 10_state.md R32 to R57), and the bit helpers. -/

namespace Sys2Proof.Machine

/-! ### Bits -/

/-- `v[i] <- b` (00_scope.md R10, R11). -/
def putBit {w : Nat} (v : BitVec w) (i : Nat) (b : Bool) : BitVec w :=
  if b then v ||| BitVec.twoPow w i else v &&& ~~~(BitVec.twoPow w i)

/-- A flag as a 32-bit value, zero-extended (00_scope.md R11). -/
def flagWord (b : Bool) : Word := if b then 1 else 0

/-! ### Operands (30_encoding.md R103): full 32-bit unsigned values, read at acceptance -/

/-- ARG0 as a buffer address. -/
def State.addrOperand (s : State) : Nat := s.arg0.toNat

/-- ARG1 as a count, a length or a maximum. -/
def State.countOperand (s : State) : Nat := s.arg1.toNat

/-- ARG2[PU_BITS−1:0], zero-extended; the bits at and above PU_BITS are ignored (R103). -/
def State.durationOperand (s : State) : Word := BitVec.ofNat 32 (s.arg2.toNat % 2 ^ s.params.puBits)

/-- "0 or > COUNT_MAX → BAD_COUNT" for READ and WRITE (R103). -/
def State.countBad (s : State) : Bool :=
  decide (s.countOperand = 0) || decide (s.countOperand > s.params.countMax)

/-- "> COUNT_MAX → BAD_COUNT; 0 is legal" for CRC8 (R103, 40_crc8.md R141). -/
def State.lengthBad (s : State) : Bool := decide (s.countOperand > s.params.countMax)

/-- "0 or > DEV_MAX → BAD_MAX" for SEARCH (R103). -/
def State.maxBad (s : State) : Bool :=
  decide (s.countOperand = 0) || decide (s.countOperand > s.params.devMax)

/-! ### The configuration word (10_state.md R44, 43_lifecycle.md R252) -/

def masterCh (c : Word) : Nat := (c.extractLsb' 0 4).toNat
def sampleCh (c : Word) : Nat := (c.extractLsb' 4 4).toNat
def pgPresent (c : Word) : Bool := c.getLsbD 8
def readbitPresent (c : Word) : Bool := c.getLsbD 9
def puAssertPresent (c : Word) : Bool := c.getLsbD 10
def puReleasePresent (c : Word) : Bool := c.getLsbD 11

/-- ConfigValid(c), the six checks of 43_lifecycle.md R252. -/
def State.configValid (s : State) (c : Word) : Bool :=
  pgPresent c && readbitPresent c &&
  decide (masterCh c < s.params.pgChannels) && decide (sampleCh c < s.params.pgChannels) &&
  decide (masterCh c ≠ sampleCh c) &&
  (puAssertPresent c == puReleasePresent c) &&
  decide (c.extractLsb' 12 20 = 0)

/-- CONFIG as START latches it: c[11:0] with bound = 1 (43_lifecycle.md R251). -/
def boundConfig (c : Word) : BitVec 13 := (1#1 ++ c.extractLsb' 0 12 : BitVec 13)

/-- CONFIG.bound, bit 12 (10_state.md R44). -/
def State.bound (s : State) : Bool := s.config.getLsbD 12

/-! ### ROM bytes (10_state.md R56, 20_memory.md R82) -/

/-- Byte j of the 64-bit ROM code: bits [8j+7:8j]. -/
def romByte (rom : BitVec 64) (j : Nat) : Byte := rom.extractLsb' (8 * j) 8

/-- The eight bytes of a ROM code, byte 0 first. -/
def romBytes (rom : BitVec 64) : List Byte := (List.range 8).map (romByte rom)

/-! ### The register map (30_encoding.md R104) -/

/-- A register's offset from OWE_BASE. -/
def Reg.offset : Reg → BitVec 6
  | .cmd => 0x00
  | .arg0 => 0x04
  | .arg1 => 0x08
  | .arg2 => 0x0C
  | .result => 0x10
  | .status => 0x14
  | .search => 0x18
  | .branch => 0x1C
  | .romLo => 0x20
  | .romHi => 0x24
  | .prevLo => 0x28
  | .prevHi => 0x2C
  | .fault => 0x30
  | .config => 0x34
  | .pgctl => 0x38

/-- The registers in the order of their offsets. -/
def Reg.all : List Reg :=
  [.cmd, .arg0, .arg1, .arg2, .result, .status, .search, .branch, .romLo, .romHi, .prevLo, .prevHi, .fault, .config,
   .pgctl]

/-- The register a host access reaches: a 32-bit access at a listed offset, and no other (20_memory.md R84). -/
def admittedReg (off : BitVec 6) (size : AccessSize) : Option Reg :=
  match size with
  | .word => Reg.all.find? (fun r => r.offset == off)
  | .byte => none
  | .half => none
  | .wide => none

/-- A register's address (30_encoding.md R104): OWE_BASE + offset. -/
def State.regAddress (s : State) (r : Reg) : Word := s.params.oweBase + r.offset.setWidth 32

/-- The address lies in the register block, OWE_BASE to OWE_BASE + 0x3F (20_memory.md R89). -/
def State.inRegisterBlock (s : State) (a : Nat) : Bool :=
  decide (s.params.oweBase.toNat ≤ a) && decide (a < s.params.oweBase.toNat + 0x40)

/-! ### Field codes (10_state.md R32 to R55, 60_exceptions.md R270) -/

def DriverState.code : DriverState → BitVec 2
  | .uninit => 0
  | .stop => 1
  | .ready => 2
  | .pullUp => 3

def BsmOp.code : BsmOp → BitVec 3
  | .none => 0
  | .reset => 1
  | .read => 2
  | .write => 3
  | .triplet => 4
  | .pullup => 5

def LowPulse.code : LowPulse → BitVec 3
  | .none => 0
  | .resetLow => 1
  | .readLow => 2
  | .w0Low => 3
  | .w1Low => 4

def PassKind.code : PassKind → BitVec 1
  | .first => 0
  | .next => 1

def PassResult.code : PassResult → BitVec 2
  | .success => 0
  | .last => 1
  | .error => 2

def BitStep.code : BitStep → BitVec 2
  | .slotA => 0
  | .slotB => 1
  | .slotW => 2

def SearchPhase.code : SearchPhase → BitVec 2
  | .idle => 0
  | .reset => 1
  | .cmd => 2
  | .triplet => 3

def FaultCause.code : FaultCause → BitVec 4
  | .none => 0
  | .reservedOpcode => 1
  | .badState => 2
  | .busy => 3
  | .badCount => 4
  | .badBuffer => 5
  | .badConfig => 6
  | .badMax => 7
  | .spuriousEvent => 8

/-! ### Packed register words; reserved bits read 0 (10_state.md R59) -/

/-- bytes[31:16], waiter[11], op[10:8], slave_present[7], need_pullup[6], final_timeslot[5], bit[4:2], state[1:0]. -/
def Status.word (r : Status) : Word :=
  (r.bytes ++ 0#4 ++ BitVec.ofBool r.waiter ++ r.op.code ++ BitVec.ofBool r.slavePresent ++
   BitVec.ofBool r.needPullup ++ BitVec.ofBool r.finalTimeslot ++ r.bit ++ r.state.code : BitVec 32)

/-- devices_found[31:16], phase[15:14], rombit[13:8], bit_buf[7:6], bit_step[5:4], result[3:2], kind[1], single[0]. -/
def SearchReg.word (r : SearchReg) : Word :=
  (r.devicesFound ++ r.phase.code ++ r.rombit ++ r.bitBuf ++ r.bitStep.code ++ r.result.code ++ r.kind.code ++
   BitVec.ofBool r.singleDevice : BitVec 32)

/-- prev_zero_branch[15:8], last_zero_branch[7:0]. -/
def BranchReg.word (r : BranchReg) : Word := (0#16 ++ r.prevZero ++ r.lastZero : BitVec 32)

/-- info[15:8], cause[7:4], valid[0]. -/
def FaultReg.word (r : FaultReg) : Word :=
  (0#16 ++ r.info ++ r.cause.code ++ 0#3 ++ BitVec.ofBool r.valid : BitVec 32)

/-- pu_asserted[7], sample_sel[6], sample_en[5], next_low[4:2], period_sel[1], run[0]. -/
def PgCtl.word (r : PgCtl) : Word :=
  (0#24 ++ BitVec.ofBool r.puAsserted ++ BitVec.ofBool r.sampleSel ++ BitVec.ofBool r.sampleEn ++ r.nextLow.code ++
   BitVec.ofBool r.periodSel ++ BitVec.ofBool r.run : BitVec 32)

/-- What a host read of a register returns (30_encoding.md R104, R105): CMD reads 0 (10_state.md R41), ARGn the last
value written (R40). -/
def State.readReg (s : State) : Reg → Word
  | .cmd => 0
  | .arg0 => s.arg0
  | .arg1 => s.arg1
  | .arg2 => s.arg2
  | .result => s.result
  | .status => s.status.word
  | .search => s.search.word
  | .branch => s.branch.word
  | .romLo => s.rom.extractLsb' 0 32
  | .romHi => s.rom.extractLsb' 32 32
  | .prevLo => s.prev.extractLsb' 0 32
  | .prevHi => s.prev.extractLsb' 32 32
  | .fault => s.fault.word
  | .config => s.config.setWidth 32
  | .pgctl => s.pgctl.word

end Sys2Proof.Machine
end

