-- ==== Sys2Proof/Machine/Flags.lean ====
section
/-! DEFINITION. How each flag and result code is computed: presence, has_pullup and need_pullup, the write slot's pulse,
the classification of a search pair, the branch choice, the CRC check and a pass's result. -/

namespace Sys2Proof.Machine

/-- slave_present from the presence sample: 1 exactly when the pin is 0 (41_bit_io.md R159). -/
def presenceOf (pin : Bool) : Bool := !pin

/-- has_pullup = STRONG_PULLUP ∧ pu_assert_present ∧ pu_release_present (10_state.md R44). -/
def State.hasPullup (s : State) : Bool :=
  s.params.strongPullup && s.config.getLsbD 10 && s.config.getLsbD 11

/-- need_pullup for a WRITE with pull-up duration `d`: d > 0 and has_pullup (41_bit_io.md R168). -/
def State.needPullupFor (s : State) (d : Word) : Bool := decide (d ≠ 0) && s.hasPullup

/-- LowW(v): "long low = 0, short low = 1" (41_bit_io.md R164). -/
def lowW (v : Bool) : LowPulse := if v then .w1Low else .w0Low

/-- What the pair (A, B) of a triplet says (42_search_rom.md R213). -/
inductive PairClass where
  | allZero
  | allOne
  | conflict
  | nobody
  deriving DecidableEq, Repr

/-- The classification of R213, as corrected (90_conflicts.md C1). -/
def classifyPair (a b : Bool) : PairClass :=
  if a && b then .nobody
  else if b then .allZero
  else if a then .allOne
  else .conflict

/-- ChooseBranch's decision (42_search_rom.md R214): the bit taken, last_zero_branch and prev_zero_branch after it, for
bit index `i`, PREV and the two markers before it; the indices are compared as signed values. -/
def chooseBranch (i : BitVec 6) (prev : BitVec 64) (br : BranchReg) : Bool × BranchReg :=
  if (i.toNat : Int) < br.prevZero.toInt then
    if prev.getLsbD i.toNat then (true, br)
    else (false, { br with lastZero := i.setWidth 8 })
  else if (i.toNat : Int) = br.prevZero.toInt then (true, { br with prevZero := -1 })
  else (false, { br with lastZero := i.setWidth 8 })

/-- RomCrcOk: CRC8 of ROM bytes 0 to 6 equals ROM byte 7 (42_search_rom.md R219). -/
def romCrcOk (rom : BitVec 64) : Bool := crc8 ((romBytes rom).take 7) == romByte rom 7

/-- A pass's result at its end (42_search_rom.md R220): ERROR stays; a CRC mismatch is ERROR; no unexplored branch is
LAST; otherwise SUCCESS. -/
def passResult (aborted : PassResult) (rom : BitVec 64) (single : Bool) (lastZero : BitVec 8) : PassResult :=
  if aborted = .error then .error
  else if !romCrcOk rom then .error
  else if single || decide (lastZero.toInt < 0) then .last
  else .success

end Sys2Proof.Machine
end

