-- ==== Sys2Proof/Machine/Ops.lean ====
section
/-! DEFINITION. The shared operations: fault entry (60_exceptions.md R271), the check order of a command (R275), Resume
(00_scope.md R14), Arm (41_bit_io.md R156), stopping PG, the write cursor (R164) and the event checks (R155). -/

namespace Sys2Proof.Machine

/-- What one instruction answers. -/
abbrev Result := Host.Outcome State Fault Refusal

/-! ### Fault entry and return -/

/-- PG stopped, no sample, no low pulse: the three writes Complete, FinishWrite and fault entry share (41_bit_io.md
R157, R166; 60_exceptions.md R271). PG delivers no further event of the slot (R285 obligation 4). -/
def State.stopPg (s : State) : State :=
  { s with
    pgctl := { s.pgctl with run := false, sampleEn := false, nextLow := .none }
    pg := { s.pg with slotOpen := false } }

/-- PU.release(): the pull-up level falls (30_encoding.md R112). -/
def State.releasePullup (s : State) : State := { s with pgctl := { s.pgctl with puAsserted := false } }

/-- `raise Fault(cause, info)` (60_exceptions.md R271): FAULT records the cause, the pull-up is released, PG stops, PUT
is cancelled, and nothing else changes. There is no return from it (R278): only power-on reset clears FAULT.valid. -/
def State.raiseFault (s : State) (cause : FaultCause) (info : Byte) : State :=
  { s.releasePullup.stopPg with
    fault := { valid := true, cause := cause, info := info }
    put := none }

/-- The first cause whose check fails, in the order listed (60_exceptions.md R275). -/
def firstCause : List (Bool × FaultCause) → Option FaultCause
  | [] => none
  | (failed, cause) :: rest => if failed then some cause else firstCause rest

/-- BSM, and SRC with it, has no step any more (20_memory.md R87, 93 U5; log 9). -/
def State.stickBsm (s : State) : State := { s with stuck := { s.stuck with bsm := true } }

/-- One atomic response in `s`: the state it leaves, or none where it reaches a byte that host memory has withdrawn.
Such a response has no step, so no part of it takes effect, and BSM is stuck (20_memory.md R87, 00_scope.md R9; log 9). -/
def State.respond (s : State) : Option State → Result
  | some t => .next t
  | none => .next s.stickBsm

/-- One command's issue (60_exceptions.md R272, R275): nothing while a fault is recorded; else the first failing check
raises its fault, before any write; else the command is accepted. -/
def State.issue (s : State) (info : Byte) (checks : List (Bool × FaultCause)) (accepted : Result) : Result :=
  if s.fault.valid then .next s
  else
    match firstCause checks with
    | some cause => .next (s.raiseFault cause info)
    | none => accepted

/-- The driver state differs from the one a command needs (43_lifecycle.md R254). -/
def State.stateIsNot (s : State) (d : DriverState) : Bool := decide (s.status.state ≠ d)

/-! ### The host's wait and the pulse generator -/

/-- Resume(v): RESULT ← v, STATUS.waiter ← 0 (00_scope.md R14). -/
def State.resume (s : State) (v : Word) : State :=
  { s with
    result := v
    status := { s.status with waiter := false } }

/-- Arm(k, period, ssel, sen, low) (41_bit_io.md R156). A new slot 0 starts: MASTER is the next event (R285). -/
def State.arm (s : State) (k : BsmOp) (period ssel sen : Bool) (low : LowPulse) : State :=
  { s with
    status := { s.status with op := k, finalTimeslot := false }
    pgctl := { s.pgctl with periodSel := period, sampleSel := ssel, sampleEn := sen, nextLow := low, run := true }
    pg := { s.pg with slotOpen := false } }

/-- A reset slot: slave_present cleared, then Arm(RESET, 1, 1, 1, RESET_LOW) (41_bit_io.md R160, 42_search_rom.md
R204). -/
def State.armReset (s : State) : State :=
  { s with status := { s.status with slavePresent := false } }.arm .reset true true true .resetLow

/-- PG begins a slot: it latches next_low and period_sel for it (41_bit_io.md R150; 60_exceptions.md R285). -/
def State.latchSlot (s : State) : State :=
  { s with pg := { slotOpen := true, slotLow := s.pgctl.nextLow, slotPeriod := s.pgctl.periodSel } }

/-- PG's sample point has passed (41_bit_io.md R152). -/
def State.closeSlot (s : State) : State := { s with pg := { s.pg with slotOpen := false } }

/-- PGCTL.next_low ← k (00_scope.md R14). -/
def State.setNextLow (s : State) (k : LowPulse) : State := { s with pgctl := { s.pgctl with nextLow := k } }

/-- PGCTL.sample_en ← 0. -/
def State.stopSampling (s : State) : State := { s with pgctl := { s.pgctl with sampleEn := false } }

/-- next_low ← NONE and final_timeslot ← 1: the next slot is the final timeslot (41_bit_io.md R158, R161, R165). -/
def State.enterFinal (s : State) : State :=
  { s.setNextLow .none with status := { s.status with finalTimeslot := true } }

/-! ### The write path (41_bit_io.md R164) -/

/-- ByteAt(a): from host memory, or the constant CMD_SEARCH_ROM (R164). None where the byte was withdrawn (93 U5). -/
def State.byteAt (s : State) (a : Nat) : Option Byte :=
  match s.wsrc with
  | .memory => s.memRead a
  | .searchRom => some s.params.cmdSearchRom

/-- The cursor moved to the next byte, on ADDR_W bits (00_scope.md R12; log 24). -/
def State.nextCursor (s : State) : Word := BitVec.ofNat 32 (s.addrAdd s.cursor.toNat 1)

/-- AdvW(): the write cursor moves on, and the next byte is fetched when a byte is used up (R164). -/
def State.advW (s : State) : Option State :=
  if s.status.bit = 7 then
    let t := { s with
      status := { s.status with bit := 0, bytes := s.status.bytes - 1 }
      cursor := s.nextCursor }
    if t.status.bytes = 0 then some t
    else
      match t.byteAt t.cursor.toNat with
      | some b => some { t with wbyte := b }
      | none => none
  else some { s with status := { s.status with bit := s.status.bit + 1 } }

/-- The write of `n` bytes armed: bit 0 of `first` programmed, then AdvW (41_bit_io.md R168, 42_search_rom.md R205). -/
def State.armWrite (s : State) (n : BitVec 16) (first : Byte) : Option State :=
  ({ s with
      status := { s.status with bytes := n, bit := 0 }
      wbyte := first }.arm .write false false false (lowW (first.getLsbD 0))).advW

/-! ### Event checks (41_bit_io.md R152, R155) -/

/-- PG's contract lets a MASTER come now: PG runs, and no SAMPLE of the current slot is due (R152; log 3). -/
def State.masterDue (s : State) : Bool := s.pgctl.run && !(s.pg.slotOpen && s.pgctl.sampleEn)

/-- PG's contract lets a SAMPLE come now: PG runs, a slot has begun, and sample_en = 1 (R152; log 3). -/
def State.sampleDue (s : State) : Bool := s.pgctl.run && s.pgctl.sampleEn && s.pg.slotOpen

/-- Fault(SPURIOUS_EVENT, info = event code) (41_bit_io.md R155). -/
def State.spurious (s : State) (code : Byte) : Result := .next (s.raiseFault .spuriousEvent code)

end Sys2Proof.Machine
end

