-- ==== Sys2Proof/Machine/Search.lean ====
section
/-! DEFINITION. The Search ROM controller SRC and the triplet sequencer's procedures (42_search_rom.md R200 to R222). Every
procedure runs inside the step that calls it (92 D24). -/

namespace Sys2Proof.Machine

/-! ### The pass controller -/

/-- SRC_Finish() (42_search_rom.md R222): the host gets only the count. -/
def State.srcFinish (s : State) : State :=
  { s with search := { s.search with phase := .idle } }.resume (s.search.devicesFound.setWidth 32)

/-- The fields SRC_PassStart() writes (42_search_rom.md R203). -/
def State.srcPassInit (s : State) : State :=
  { s with
    branch := { prevZero := if s.search.kind = .next then s.branch.lastZero else -1, lastZero := -1 }
    rom := 0
    search := { s.search with
      singleDevice := true, result := .success, rombit := 0, bitStep := .slotA, bitBuf := 0, phase := .reset } }

/-- SRC_PassStart() (R203), ending in SRC_PassReset() (R204). -/
def State.srcPassStart (s : State) : State := s.srcPassInit.armReset

/-- SRC_NextPass() (R202): no pass is run whose code could not be stored. -/
def State.srcNextPass (s : State) : State :=
  if s.search.devicesFound = s.rmax then { s with search := { s.search with result := .error } }.srcFinish
  else s.srcPassStart

/-- SRC_SendSearchCmd() (R205): one byte from the constant CMD_SEARCH_ROM, never a pull-up phase. -/
def State.srcSendSearchCmd (s : State) : Option State :=
  { s with
    wsrc := .searchRom
    status := { s.status with needPullup := false } }.armWrite 1 s.params.cmdSearchRom

/-- SRC_ArmTriplets() (R210): slot 0 is slot A of bit 0. -/
def State.srcArmTriplets (s : State) : State :=
  { s with search := { s.search with rombit := 0, bitStep := .slotA, bitBuf := 0 } }.arm .triplet false false true
    .readLow

/-- SRC_EndPass() (R220). -/
def State.srcEndPass (s : State) : State :=
  { s with search := { s.search with
      result := passResult s.search.result s.rom s.search.singleDevice s.branch.lastZero } }

/-- The record of one code (R221): the eight ROM bytes at rbuf + 8k, byte 0 first, and PREV ← ROM. -/
def State.srcRecord (s : State) : Option State :=
  match s.writeBytes (s.addrAdd s.rbuf.toNat (8 * s.search.devicesFound.toNat)) (romBytes s.rom) with
  | none => none
  | some t => some { t with
      search := { t.search with devicesFound := t.search.devicesFound + 1 }
      prev := t.rom }

/-- SRC_AfterPass() (R221): an ERROR pass writes nothing and ends the enumeration. -/
def State.srcAfterPass (s : State) : Option State :=
  if s.search.result = .error then some s.srcFinish
  else
    match s.srcRecord with
    | none => none
    | some t =>
      if t.search.result = .last then some t.srcFinish
      else some { t with search := { t.search with kind := .next } }.srcNextPass

/-- SRC_SubDone(v) (R201), by the sub-operation SEARCH.phase names. -/
def State.srcSubDone (s : State) (v : Word) : Option State :=
  match s.search.phase with
  | .reset =>
    if v = 0 then { s with search := { s.search with result := .error } }.srcAfterPass
    else { s with search := { s.search with phase := .cmd } }.srcSendSearchCmd
  | .cmd => some { s with search := { s.search with phase := .triplet } }.srcArmTriplets
  | .triplet => s.srcEndPass.srcAfterPass
  | .idle => some s

/-! ### The triplet's samples -/

/-- StoreAndWrite(v) (R216): ROM[rombit] ← v, slot W carries v. -/
def State.storeAndWrite (s : State) (v : Bool) : State :=
  { s.setNextLow (lowW v) with
    rom := putBit s.rom s.search.rombit.toNat v
    search := { s.search with bitStep := .slotW } }

/-- Abort() (R218), on a (1,1) pair: slot W is not sent and becomes the final timeslot. -/
def State.abortPass (s : State) : State :=
  { s.stopSampling.enterFinal with search := { s.search with result := .error } }

/-- ChooseBranch() (R214) at the current bit, on a conflict. -/
def State.takeBranch (s : State) : State :=
  let choice := chooseBranch s.search.rombit s.prev s.branch
  { s with
    branch := choice.2
    search := { s.search with singleDevice := false } }.storeAndWrite choice.1

/-- SAMPLE in slot A (R212): the direct bit. -/
def State.sampleSlotA (s : State) (pin : Bool) : State :=
  { s with search := { s.search with bitBuf := putBit s.search.bitBuf 0 pin, bitStep := .slotB } }

/-- SAMPLE in slot B (R213): the complement bit, and the pair's classification. -/
def State.sampleSlotB (s : State) (pin : Bool) : State :=
  let t := { s with search := { s.search with bitBuf := putBit s.search.bitBuf 1 pin } }
  match classifyPair (t.search.bitBuf.getLsbD 0) (t.search.bitBuf.getLsbD 1) with
  | .nobody => t.abortPass
  | .allZero => t.storeAndWrite false
  | .allOne => t.storeAndWrite true
  | .conflict => t.takeBranch

/-- SAMPLE in slot W (R217): the pin is ignored; the next bit, or no sample in the final timeslot. -/
def State.sampleSlotW (s : State) : State :=
  if s.status.finalTimeslot then s.stopSampling
  else { s with search := { s.search with rombit := s.search.rombit + 1, bitStep := .slotA, bitBuf := 0 } }

/-- SAMPLE response when op = TRIPLET, by SEARCH.bit_step (R212, R213, R217). -/
def State.sampleTriplet (s : State) (pin : Bool) : State :=
  match s.search.bitStep with
  | .slotA => s.sampleSlotA pin
  | .slotB => s.sampleSlotB pin
  | .slotW => s.sampleSlotW

/-! ### The command -/

/-- The fields SEARCH acceptance writes before SRC_NextPass() (R200). -/
def State.searchInit (s : State) : State :=
  { s with
    rbuf := s.arg0
    rmax := BitVec.ofNat 16 s.countOperand
    search := { s.search with kind := .first, devicesFound := 0, result := .success }
    branch := { lastZero := -1, prevZero := -1 }
    prev := 0
    status := { s.status with waiter := true } }

/-- SEARCH (R200). -/
def execSearch (s : State) : Result :=
  s.issue Instr.search.infoCode
    [(s.status.waiter, .busy), (s.stateIsNot .ready, .badState), (s.maxBad, .badMax),
     (!s.validRange s.addrOperand (8 * s.countOperand), .badBuffer)]
    (.next s.searchInit.srcNextPass)

end Sys2Proof.Machine
end

