-- ==== Sys2Proof/Machine/BitIo.lean ====
section
/-! DEFINITION. The bit-level state machine: Complete, the responses to MASTER, SAMPLE and PULLUP_END, and the commands
RESET, READ and WRITE (41_bit_io.md R155 to R168; 42_search_rom.md R211). -/

namespace Sys2Proof.Machine

/-- Complete(v) (41_bit_io.md R157): PG stops, op ← NONE; SRC takes the result while a SEARCH is in flight, else the
host is resumed with it. -/
def State.complete (s : State) (v : Word) : Option State :=
  let t := { s.stopPg with status := { s.status with op := .none } }
  if t.search.phase = .idle then some (t.resume v) else t.srcSubDone v

/-- The strong pull-up phase begins (41_bit_io.md R166): PG stops, PU.assert(), PUT.start(pu_time). -/
def State.startPullup (s : State) : State :=
  { s.stopPg with
    status := { s.status with needPullup := false, state := .pullUp, op := .pullup }
    pgctl := { s.stopPg.pgctl with puAsserted := true }
    put := some s.puTime }

/-- FinishWrite() (41_bit_io.md R166). -/
def State.finishWrite (s : State) : Option State :=
  if s.status.needPullup then some s.startPullup else s.complete 0

/-! ### MASTER responses -/

/-- MASTER when op = RESET (41_bit_io.md R158). -/
def State.masterReset (s : State) : Option State :=
  if s.status.finalTimeslot then s.complete (flagWord s.status.slavePresent) else some s.enterFinal

/-- MASTER when op = READ (41_bit_io.md R161). -/
def State.masterRead (s : State) : Option State :=
  if s.status.finalTimeslot then s.complete 0
  else if s.status.bytes = 1 ∧ s.status.bit = 7 then some s.enterFinal
  else some s

/-- MASTER when op = WRITE (41_bit_io.md R165). -/
def State.masterWrite (s : State) : Option State :=
  if s.status.finalTimeslot then s.finishWrite
  else if s.status.bytes = 0 then some s.enterFinal
  else (s.setNextLow (lowW (s.wbyte.getLsbD s.status.bit.toNat))).advW

/-- MASTER when op = TRIPLET (42_search_rom.md R211). -/
def State.masterTriplet (s : State) : Option State :=
  if s.status.finalTimeslot then s.complete 0
  else
    match s.search.bitStep with
    | .slotA => some (s.setNextLow .readLow)
    | .slotB => some s
    | .slotW => if s.search.rombit = 63 then some s.enterFinal else some (s.setNextLow .readLow)

/-! ### SAMPLE responses -/

/-- SAMPLE when op = RESET (41_bit_io.md R159). -/
def State.sampleReset (s : State) (pin : Bool) : State :=
  { s.stopSampling with status := { s.status with slavePresent := presenceOf pin } }

/-- A READ's byte is whole (41_bit_io.md R162): it is stored, and the cursor moves to the next byte. -/
def State.storeReadByte (s : State) : Option State :=
  match s.memWrite s.cursor.toNat s.acc with
  | none => none
  | some t =>
    let u := { t with
      cursor := t.nextCursor
      acc := 0
      status := { t.status with bytes := t.status.bytes - 1, bit := 0 } }
    some (if u.status.bytes = 0 then u.stopSampling else u)

/-- SAMPLE when op = READ (41_bit_io.md R162): one bit, LSB first. -/
def State.sampleRead (s : State) (pin : Bool) : Option State :=
  let t := { s with acc := putBit s.acc s.status.bit.toNat pin }
  if s.status.bit = 7 then t.storeReadByte
  else some { t with status := { t.status with bit := t.status.bit + 1 } }

/-! ### The events -/

/-- OWE takes no step on an event: a fault is recorded (60_exceptions.md R272), or BSM is stuck (20_memory.md R87). -/
def State.ignoresEvents (s : State) : Bool := s.fault.valid || s.stuck.bsm

/-- MASTER (41_bit_io.md R150 to R152, R155): PG latches the slot, then op selects the response. -/
def execMaster (pin : Bool) (s : State) : Result :=
  if pin then .refused .illegalEventWord
  else if s.ignoresEvents then .next s
  else if !s.masterDue then s.spurious (Instr.master false).infoCode
  else
    match s.status.op with
    | .none => s.spurious (Instr.master false).infoCode
    | .reset => s.respond s.latchSlot.masterReset
    | .read => s.respond s.latchSlot.masterRead
    | .write => s.respond s.latchSlot.masterWrite
    | .triplet => s.respond s.latchSlot.masterTriplet
    | .pullup => s.spurious (Instr.master false).infoCode

/-- SAMPLE (41_bit_io.md R152, R153, R155). -/
def execSample (pin : Bool) (s : State) : Result :=
  if s.ignoresEvents then .next s
  else if !s.sampleDue then s.spurious (Instr.sample pin).infoCode
  else
    match s.status.op with
    | .none => s.spurious (Instr.sample pin).infoCode
    | .reset => .next (s.closeSlot.sampleReset pin)
    | .read => s.respond (s.closeSlot.sampleRead pin)
    | .write => s.spurious (Instr.sample pin).infoCode
    | .triplet => .next (s.closeSlot.sampleTriplet pin)
    | .pullup => s.spurious (Instr.sample pin).infoCode

/-- The end of the strong pull-up phase (41_bit_io.md R167): PU.release(), state READY, the host resumed with 0. -/
def State.endPullup (s : State) : State :=
  { s.releasePullup with
    status := { s.status with state := .ready, op := .none }
    put := none }.resume 0

/-- PULLUP_END (41_bit_io.md R155, R167). -/
def execPullupEnd (pin : Bool) (s : State) : Result :=
  if pin then .refused .illegalEventWord
  else if s.ignoresEvents then .next s
  else
    match s.status.op with
    | .pullup => .next s.endPullup
    | .none => s.spurious (Instr.pullupEnd false).infoCode
    | .reset => s.spurious (Instr.pullupEnd false).infoCode
    | .read => s.spurious (Instr.pullupEnd false).infoCode
    | .write => s.spurious (Instr.pullupEnd false).infoCode
    | .triplet => s.spurious (Instr.pullupEnd false).infoCode

/-! ### The commands -/

/-- STATUS.waiter ← 1: the host is blocked (10_state.md R36). -/
def State.block (s : State) : State := { s with status := { s.status with waiter := true } }

/-- RESET (41_bit_io.md R160). -/
def execReset (s : State) : Result :=
  s.issue Instr.reset.infoCode
    [(s.status.waiter, .busy), (s.stateIsNot .ready, .badState)]
    (.next s.block.armReset)

/-- The acceptance writes of READ (41_bit_io.md R163). -/
def State.acceptRead (s : State) : State :=
  { s.block with
    cursor := s.arg0
    acc := 0
    status := { s.block.status with bytes := BitVec.ofNat 16 s.countOperand, bit := 0 } }.arm .read false false true
      .readLow

/-- READ (41_bit_io.md R163). -/
def execRead (s : State) : Result :=
  s.issue Instr.read.infoCode
    [(s.status.waiter, .busy), (s.stateIsNot .ready, .badState), (s.countBad, .badCount),
     (!s.validRange s.addrOperand s.countOperand, .badBuffer)]
    (.next s.acceptRead)

/-- The acceptance of WRITE (41_bit_io.md R168): the first byte is read from memory, where `Valid` has admitted it. -/
def State.acceptWrite (s : State) : Option State :=
  match s.memRead s.addrOperand with
  | none => none
  | some b =>
    { s.block with
      cursor := s.arg0
      wsrc := .memory
      puTime := s.durationOperand
      status := { s.block.status with needPullup := s.needPullupFor s.durationOperand } }.armWrite
        (BitVec.ofNat 16 s.countOperand) b

/-- WRITE (41_bit_io.md R168). -/
def execWrite (s : State) : Result :=
  s.issue Instr.write.infoCode
    [(s.status.waiter, .busy), (s.stateIsNot .ready, .badState), (s.countBad, .badCount),
     (!s.validRange s.addrOperand s.countOperand, .badBuffer)]
    (s.respond s.acceptWrite)

end Sys2Proof.Machine
end

