-- ==== Sys2Proof/Machine/Lifecycle.lean ====
section
/-! DEFINITION. The lifecycle commands OBJINIT, START and STOP (43_lifecycle.md R250 to R254) and the command CRC8
(40_crc8.md R141), which end in their acceptance step. -/

namespace Sys2Proof.Machine

/-- Every field at its "after OBJINIT" value (10_state.md R60, last column). ARG0 to ARG2 and FAULT are unchanged there,
and what is not OWE state stays. -/
def State.objinit (s : State) : State :=
  { s with
    status := { state := .stop, bit := 0, finalTimeslot := false, needPullup := false, slavePresent := false,
                op := .none, waiter := false, bytes := 0 }
    result := 0
    config := 0
    pgctl := { run := false, periodSel := false, nextLow := .none, sampleEn := false, sampleSel := false,
               puAsserted := false }
    search := { singleDevice := false, kind := .first, result := .success, bitStep := .slotA, bitBuf := 0,
                rombit := 0, phase := .idle, devicesFound := 0 }
    branch := { lastZero := -1, prevZero := -1 }
    rom := 0
    prev := 0
    cursor := 0
    acc := 0
    wbyte := 0
    wsrc := .memory
    puTime := 0
    rbuf := 0
    rmax := 0 }

/-- OBJINIT (43_lifecycle.md R250). -/
def execObjinit (s : State) : Result :=
  s.issue Instr.objinit.infoCode
    [(s.status.waiter, .busy), (s.stateIsNot .uninit, .badState)]
    (.next s.objinit)

/-- PGCTL ← 0, and PG with it (43_lifecycle.md R251, R253). -/
def State.idlePg (s : State) : State :=
  { s with
    pgctl := { run := false, periodSel := false, nextLow := .none, sampleEn := false, sampleSel := false,
               puAsserted := false }
    pg := { s.pg with slotOpen := false } }

/-- START (43_lifecycle.md R251). -/
def execStart (s : State) : Result :=
  s.issue Instr.start.infoCode
    [(s.status.waiter, .busy), (s.stateIsNot .stop, .badState), (!s.configValid s.arg0, .badConfig)]
    (.next { s.idlePg with
      config := boundConfig s.arg0
      status := { s.status with state := .ready }
      result := 0 })

/-- STOP (43_lifecycle.md R253): BAD_STATE in UNINIT only. -/
def execStop (s : State) : Result :=
  s.issue Instr.stop.infoCode
    [(s.status.waiter, .busy), (decide (s.status.state = .uninit), .badState)]
    (.next { s.idlePg with
      config := 0
      status := { s.status with state := .stop }
      result := 0 })

/-- CRC8 (40_crc8.md R141): one step, in every driver state; only RESULT changes. -/
def execCrc8 (s : State) : Result :=
  s.issue Instr.crc8.infoCode
    [(s.status.waiter, .busy), (s.lengthBad, .badCount),
     (decide (s.countOperand > 0) && !s.validRange s.addrOperand s.countOperand, .badBuffer)]
    (s.respond ((s.readBytes s.addrOperand s.countOperand).map
      (fun bytes => { s with result := (crc8 bytes).setWidth 32 })))

end Sys2Proof.Machine
end

