-- ==== Sys2Proof/Machine/Dispatch.lean ====
section
/-! DEFINITION. One arm per instruction: the opcode table of spec/opcode_table.json. -/

namespace Sys2Proof.Machine

def exec (i : Instr) (s : State) : Host.Outcome State Fault Refusal :=
  match i with
  | .objinit => Sys2Proof.Machine.execObjinit s
  | .start => Sys2Proof.Machine.execStart s
  | .stop => Sys2Proof.Machine.execStop s
  | .reset => Sys2Proof.Machine.execReset s
  | .read => Sys2Proof.Machine.execRead s
  | .write => Sys2Proof.Machine.execWrite s
  | .search => Sys2Proof.Machine.execSearch s
  | .crc8 => Sys2Proof.Machine.execCrc8 s
  | .master pin => Sys2Proof.Machine.execMaster pin s
  | .sample pin => Sys2Proof.Machine.execSample pin s
  | .pullupEnd pin => Sys2Proof.Machine.execPullupEnd pin s

end Sys2Proof.Machine
end

