-- ==== Sys2Proof/Machine/Port.lean ====
section
/-! DEFINITION. What happens around an instruction: host register accesses (30_encoding.md R104, R105), the event port
(R111), the model's own PG and PUT (60_exceptions.md R283, R285) and the choice of the next input (log 1). -/

namespace Sys2Proof.Machine

/-- The host whose CMD write this is becomes the caller, the one a blocking command suspends: `suspend(current)` (00_scope.md
R8, 30_encoding.md R113, 41_bit_io.md R156). While a host is blocked it stays the caller, and in the faulted state nothing
changes. -/
def State.callBy (s : State) (who : HostId) : State :=
  { s with caller := if s.fault.valid || s.status.waiter then s.caller else who }

/-- A write of `who` to CMD (30_encoding.md R101, R105, R120): it issues the command, or raises Fault(RESERVED_OPCODE),
which comes before every other check (60_exceptions.md R275). -/
def State.writeCmd (s : State) (who : HostId) (w : Word) : Result :=
  match decode (.command w) with
  | .ok i => exec i (s.callBy who)
  | .error _ => .next (s.raiseFault .reservedOpcode (w.setWidth 8))

/-- A write of `who` to a register (30_encoding.md R105): nothing while a fault is recorded (60_exceptions.md R272); an ARGn
write while waiter = 1 raises Fault(BUSY, 0x10 + n) (R270); a read-only register does not change (10_state.md R59). -/
def State.writeReg (s : State) (who : HostId) (r : Reg) (v : Word) : Result :=
  if s.fault.valid then .next s
  else
    match r with
    | .cmd => s.writeCmd who v
    | .arg0 => if s.status.waiter then .next (s.raiseFault .busy 0x10) else .next { s with arg0 := v }
    | .arg1 => if s.status.waiter then .next (s.raiseFault .busy 0x11) else .next { s with arg1 := v }
    | .arg2 => if s.status.waiter then .next (s.raiseFault .busy 0x12) else .next { s with arg2 := v }
    | .result => .next s
    | .status => .next s
    | .search => .next s
    | .branch => .next s
    | .romLo => .next s
    | .romHi => .next s
    | .prevLo => .next s
    | .prevHi => .next s
    | .fault => .next s
    | .config => .next s
    | .pgctl => .next s

/-- OWE owns the byte at `a`: it lies in the buffer of the READ, WRITE or SEARCH in flight (20_memory.md R86). ARG0 and
ARG1 still hold that command's operands, since an ARGn write while waiter = 1 faults (10_state.md R40). -/
def State.ownsByte (s : State) (a : Nat) : Bool :=
  s.status.waiter &&
    (if s.search.phase = .idle then
      decide (s.status.op ≠ .reset) && decide (s.arg0.toNat ≤ a) && decide (a < s.arg0.toNat + s.arg1.toNat)
    else decide (s.rbuf.toNat ≤ a) && decide (a < s.rbuf.toNat + 8 * s.rmax.toNat))

/-- The host is stuck (20_memory.md R84). -/
def State.isStuck (s : State) (who : HostId) : Bool := s.stuck.hosts.contains who

/-- The host has executed HALT (70_reset_and_hazards.md R320). -/
def State.hasHalted (s : State) (who : HostId) : Bool := s.halts.any (fun h => h.host == who)

/-- The host has no step any more: it is stuck, or its program has ended. -/
def State.isDone (s : State) (who : HostId) : Bool := s.isStuck who || s.hasHalted who

/-- One more host is stuck. -/
def StuckAgents.add (h : StuckAgents) (who : HostId) : StuckAgents :=
  { h with hosts := if h.hosts.contains who then h.hosts else who :: h.hosts }

/-- The host has no step from now on (20_memory.md R84, 93 U12; log 10). -/
def State.stickHost (s : State) (who : HostId) : State := { s with stuck := s.stuck.add who }

/-- A byte stored by a host (30_encoding.md R125, STB). In the register block it is a register access narrower than 32
bits, which leaves the host stuck (20_memory.md R84, R89); in a buffer OWE owns it is refused (93 U4; log 13). -/
def State.hostStore (s : State) (who : HostId) (a : Word) (b : Byte) : Result :=
  if s.inRegisterBlock a.toNat then .next (s.stickHost who)
  else if s.ownsByte a.toNat then .refused .bufferAliased
  else
    match s.memWrite a.toNat b with
    | none => .fault .hostAccessNotAdmitted
    | some t => .next t

/-- A byte loaded by a host, zero-extended. In the register block it is a register access narrower than 32 bits, which
leaves the host stuck (20_memory.md R84, R89); in a buffer OWE owns it is refused (93 U4; log 13). -/
def State.hostLoad (s : State) (who : HostId) (a : Word) : Result :=
  if s.inRegisterBlock a.toNat then .next (s.stickHost who)
  else if s.ownsByte a.toNat then .refused .bufferAliased
  else
    match s.memRead a.toNat with
    | none => .fault .hostAccessNotAdmitted
    | some b => .next { s with readData := b.setWidth 32 }

/-- The state in which a host's HALT ends its run successfully: the conditions of 70_reset_and_hazards.md R320. -/
abbrev State.EndsWell (s : State) : Prop :=
  s.fault.valid = false ∧ s.status.waiter = false ∧ s.status.op = .none ∧ s.search.phase = .idle ∧
  s.pgctl.run = false ∧ s.pgctl.puAsserted = false ∧ s.put = none

/-- How a run ends that ends here (R320). -/
def State.runEnd (s : State) : RunEnd :=
  if s.fault.valid then .faulted else if s.EndsWell then .success else .unfinished

/-- HALT: the host's program ends, and the host has no step from now on (30_encoding.md R125, R320). -/
def State.haltHost (s : State) (who : HostId) : State :=
  { s with halts := s.halts ++ [{ host := who, runEnd := s.runEnd }] }

/-- One action of a host. A register access that R84 does not admit leaves that host stuck and reaches no register. -/
def State.hostAct (s : State) (who : HostId) : HostAction → Result
  | .write off size v =>
    match admittedReg off size with
    | none => .next (s.stickHost who)
    | some r => s.writeReg who r v
  | .read off size =>
    match admittedReg off size with
    | none => .next (s.stickHost who)
    | some r => .next { s with readData := s.readReg r }
  | .store a b => s.hostStore who a b
  | .load a => s.hostLoad who a
  | .halt => .next (s.haltHost who)

/-- An event word at the event port (30_encoding.md R111): code 0 causes no step; a word PG's and PUT's contracts
exclude is refused (93 U6; log 12). -/
def State.deliverEvent (s : State) (w : BitVec 3) : Result :=
  match decode (.event w) with
  | .ok i => exec i s
  | .error .noEvent => .next s
  | .error (.reservedOpcode _) => .refused .illegalEventWord
  | .error .masterPinSet => .refused .illegalEventWord
  | .error .pullupEndPinSet => .refused .illegalEventWord

/-- PG or PUT has a move that OWE answers: no fault is recorded, BSM is not stuck, and PG or PUT runs. -/
def State.environmentMoves (s : State) : Bool := !s.ignoresEvents && (s.pgctl.run || s.put.isSome)

/-- The move of PG or PUT as its contract says (60_exceptions.md R283, R285): while PG runs, a SAMPLE if one is due, with
the next pin of the BUS oracle (log 4), else a MASTER; else PUT's PULLUP_END. -/
def State.environment (s : State) : Result :=
  if s.pgctl.run then
    if s.sampleDue then exec (.sample (Config.pinDraw s.draws)) { s with draws := s.draws + 1 }
    else exec (.master false) s
  else exec (.pullupEnd false) s

/-- No agent can move any more: BSM is stuck (20_memory.md R87, 93 U5; log 9), a blocked host is never resumed
(60_exceptions.md R271, 93 U16; log 11), a host is stuck since its access (20_memory.md R84; log 10), or nothing is left
to do (log 15). -/
def State.quiet (s : State) : Result :=
  if s.stuck.bsm then .fault .byteWithdrawn
  else if s.status.waiter then .fault .hostStuck
  else if s.stuck.hosts ≠ [] then .fault .accessNotAdmitted
  else .next s

/-- The host is blocked inside the command it issued (10_state.md R36, 30_encoding.md R113; log 30). -/
def State.isBlocked (s : State) (who : HostId) : Bool := s.status.waiter && decide (s.caller = who)

/-- The host has a step: it is neither blocked nor stuck, and its program has not ended. -/
def State.canAct (s : State) (who : HostId) : Bool := !s.isBlocked who && !s.isDone who

/-- A blocked host has no step (10_state.md R36): its next action waits where it is. That of a host which is stuck or has
halted waits for nothing. -/
def State.holds (s : State) : Input → Bool
  | .host who _ => s.isBlocked who && !s.isDone who
  | .event _ => false
  | .turn => false
  | .memMap _ => false
  | .powerOn => false

/-- The first input that is not held back, and the inputs without it. -/
def State.firstFree (s : State) : List Input → Option (Input × List Input)
  | [] => none
  | i :: rest =>
    if s.holds i then
      match State.firstFree s rest with
      | none => none
      | some (j, others) => some (j, i :: others)
    else some (i, rest)

/-- The first input is a blocked host's action. -/
def State.headHeld (s : State) : Bool :=
  match s.inputs with
  | [] => false
  | i :: _ => s.holds i

/-- The input this step takes, and the inputs without it: none while a blocked host's action is first and PG or PUT can
move, else the first one that is not held back (log 1). -/
def State.arrival (s : State) : Option (Input × List Input) :=
  if s.headHeld && s.environmentMoves then none else s.firstFree s.inputs

/-- One input arrives. A host that is stuck or has halted has no step: its action has no effect (20_memory.md R84,
70_reset_and_hazards.md R320; log 10, log 32). -/
def State.deliver (s : State) : Input → Result
  | .host who act => if s.isDone who then .next s else s.hostAct who act
  | .event w => s.deliverEvent w
  | .turn => if s.environmentMoves then s.environment else .next s
  | .memMap regions => .next { s with memMap := regions }
  | .powerOn => .next s.powerOn

/-- The next step: the input that arrives, or PG or PUT where none does (log 1). -/
def State.advance (s : State) : Result :=
  match s.arrival with
  | some (i, rest) => { s with inputs := rest }.deliver i
  | none => if s.environmentMoves then s.environment else s.quiet

/-- A host that can act: host 0, or else one above every host that is blocked, stuck or halted. Its CMD write is what
withFetchWord places (log 1). -/
def State.freeHost (s : State) : HostId :=
  if s.canAct 0 then 0 else (s.caller :: (s.stuck.hosts ++ s.halts.map Halt.host)).foldl max 0 + 1

/-- The input that carries a port word: a CMD write of `who`, or an event word (log 1). -/
def portInput (who : HostId) : PortWord → Input
  | .command w => .host who (.write Reg.cmd.offset .word w)
  | .event w => .event w

end Sys2Proof.Machine
end

