-- ==== Sys2Proof/Machine/Step.lean ====
section
/-! DEFINITION. One step of the machine, and the place its next instruction comes from. -/

namespace Sys2Proof.Machine

/-- One atomic step (00_scope.md R9). -/
def step (s : State) : Host.Outcome State Fault Refusal := s.advance

/-- `s` with an opcode-table row's word as the next input: a CMD write of a host that can act, or an event word (log 1, log
18). OWE fetches no
instruction (20_memory.md R95). A number that is no word of its port changes nothing. -/
def State.withFetchWord (s : State) (nbits w : Nat) : State :=
  match portWord nbits w with
  | none => s
  | some p => { s with inputs := portInput s.freeHost p :: s.inputs }

end Sys2Proof.Machine
end

