-- ==== Sys2Proof/Machine/Assembler.lean ====
section
/-! DEFINITION. The command statements, the pseudo-instructions and their register writes (30_encoding.md R125, R127).
"wait" is no access: the blocked host's next action waits while waiter = 1 (log 2). -/

namespace Sys2Proof.Machine

/-- A statement of R125, or a pseudo-instruction of R127. -/
inductive Stmt where
  | objinit
  | start (cfg : Word)
  | stop
  | reset
  | read (a n : Word)
  /-- `WRITE a, n` is `WRITE a, n, 0` (R125). -/
  | write (a n d : Word)
  | search (a m : Word)
  | crc8 (a len : Word)
  /-- `STB a, b`. -/
  | stb (a : Word) (b : Byte)
  /-- `LDR x, REG`: the value read is in State.readData (log 16). -/
  | ldr (r : Reg)
  /-- `HALT` (70_reset_and_hazards.md R320). -/
  | halt
  /-- `SENDB s, b, d`; `SENDB s, b` is d = 0. -/
  | sendb (s : Word) (b : Byte) (d : Word)
  | readrom (s r : Word)
  | skiprom (s : Word)
  /-- `MATCHROM s, r`; `code` is the eight bytes the host reads at r. -/
  | matchrom (s : Word) (code : BitVec 64)
  deriving DecidableEq, Repr

/-- A host's write of a register. -/
def writeOf (r : Reg) (v : Word) : HostAction := .write r.offset .word v

/-- The expansion of a command statement (R125): the register writes, in order. -/
def commandWrites (operands : List (Reg × Word)) (opcode : Word) : List HostAction :=
  operands.map (fun p => writeOf p.1 p.2) ++ [writeOf .cmd opcode]

/-- `WRITE a, n, d`. -/
def writeStmt (a n d : Word) : List HostAction :=
  commandWrites [(.arg0, a), (.arg1, n), (.arg2, d)] 0x00000006

/-- `SENDB s, b, d`: a store, then a WRITE of one byte (R127). -/
def sendbStmt (s : Word) (b : Byte) (d : Word) : List HostAction := .store s b :: writeStmt s 1 d

/-- Every statement's host actions, in order (R125, R127). -/
def Stmt.actions : Stmt → List HostAction
  | .objinit => commandWrites [] 0x00000001
  | .start cfg => commandWrites [(.arg0, cfg)] 0x00000002
  | .stop => commandWrites [] 0x00000003
  | .reset => commandWrites [] 0x00000004
  | .read a n => commandWrites [(.arg0, a), (.arg1, n)] 0x00000005
  | .write a n d => writeStmt a n d
  | .search a m => commandWrites [(.arg0, a), (.arg1, m)] 0x00000007
  | .crc8 a len => commandWrites [(.arg0, a), (.arg1, len)] 0x00000008
  | .stb a b => [.store a b]
  | .ldr r => [.read r.offset .word]
  | .halt => [.halt]
  | .sendb s b d => sendbStmt s b d
  | .readrom s r =>
    commandWrites [] 0x00000004 ++ sendbStmt s Config.readRom 0 ++ commandWrites [(.arg0, r), (.arg1, 8)] 0x00000005
  | .skiprom s => commandWrites [] 0x00000004 ++ sendbStmt s Config.skipRom 0
  | .matchrom s code =>
    commandWrites [] 0x00000004 ++ [.store s Config.matchRom] ++
      (List.range 8).map (fun j => .store (s + 1 + BitVec.ofNat 32 j) (romByte code j)) ++ writeStmt s 9 0

/-- The statements that a host's program performs, as inputs. Its `IF`, labels and assignments select which statements
these are and make no access of their own (R125; log 32). -/
def program (who : HostId) (stmts : List Stmt) : List Input := (stmts.flatMap Stmt.actions).map (Input.host who)

/-- `.data a: b0 b1 ...` (R125): before the run, host memory at a, a + 1, … holds the bytes; none where an address is no
host memory. -/
def State.withData (s : State) (a : Word) (bytes : List Byte) : Option State := s.writeBytes a.toNat bytes

end Sys2Proof.Machine
end

