-- ==== Sys2Proof/Safety.lean ====
section
/-! DEFINITION. What claims are stated in: the clean-entry premise (70_reset_and_hazards.md R306), the invariants of 10_state.md R58 with what makes them inductive, the buffer discipline of 20_memory.md R86, R87,
and runs of several instructions. -/

namespace Sys2Proof.Machine

/-! ### Premises -/

/-- `Ready0` (70_reset_and_hazards.md R306); and BSM has a step (20_memory.md R87). -/
abbrev State.Ready0 (s : State) : Prop :=
  s.status.state = .ready ∧ s.status.op = .none ∧ s.status.waiter = false ∧ s.search.phase = .idle ∧
  s.pgctl.run = false ∧ s.pgctl.sampleEn = false ∧ s.pgctl.nextLow = .none ∧ s.pgctl.puAsserted = false ∧
  s.fault.valid = false ∧ s.bound = true ∧ s.configValid ((s.config.extractLsb' 0 12).setWidth 32) = true ∧
  s.put = none ∧ s.stuck.bsm = false

/-- The host has a step: it is not stuck (20_memory.md R84), its program has not ended (70_reset_and_hazards.md R320), and
it is not the blocked host, the one that issued the command in flight (10_state.md R36, 30_encoding.md R113). -/
abbrev State.CanAct (s : State) (who : HostId) : Prop :=
  s.isStuck who = false ∧ s.hasHalted who = false ∧ ¬ (s.status.waiter = true ∧ s.caller = who)

/-- Nothing arrives while PG or PUT can move: the list of inputs is empty, or its head is an action of the blocked host,
which waits (10_state.md R36; log 1). -/
abbrev State.NothingArrives (s : State) : Prop :=
  s.inputs = [] ∨ ∃ (act : HostAction) (rest : List Input),
    s.inputs = .host s.caller act :: rest ∧ s.status.waiter = true ∧ s.isDone s.caller = false

/-- OWE answers events: no fault is recorded (60_exceptions.md R272), and BSM is not stuck (20_memory.md R87). -/
abbrev State.Answers (s : State) : Prop := s.fault.valid = false ∧ s.stuck.bsm = false

/-- A command can be issued: no fault is recorded and no host is blocked (60_exceptions.md R275). -/
abbrev State.IssueReady (s : State) : Prop := s.fault.valid = false ∧ s.status.waiter = false

/-- PG's contract lets a MASTER arrive now (41_bit_io.md R152): PG runs, and no SAMPLE of the slot in progress is due. -/
abbrev State.MasterReady (s : State) : Prop :=
  s.Answers ∧ s.pgctl.run = true ∧ (s.pg.slotOpen = false ∨ s.pgctl.sampleEn = false)

/-- PG's contract lets a SAMPLE arrive now (41_bit_io.md R152): PG runs, a slot has begun, and sample_en = 1. -/
abbrev State.SampleReady (s : State) : Prop :=
  s.Answers ∧ s.pgctl.run = true ∧ s.pgctl.sampleEn = true ∧ s.pg.slotOpen = true

/-! ### Invariants -/

/-- 10_state.md R58, points 1 to 3, and PUT's side of point 3 (41_bit_io.md R166, R167). -/
abbrev State.Handshake (s : State) : Prop :=
  (s.status.waiter = true ↔ s.status.op ≠ .none ∨ s.search.phase ≠ .idle) ∧
  (s.pgctl.run = true ↔ s.status.op ≠ .none ∧ s.status.op ≠ .pullup) ∧
  (s.status.state = .pullUp ↔ s.status.op = .pullup) ∧
  (s.pgctl.puAsserted = true ↔ s.status.op = .pullup) ∧
  (s.put.isSome = true ↔ s.status.op = .pullup)

/-- An operation runs only in READY or PULL_UP, and a configuration is bound exactly there (43_lifecycle.md R251, R253,
R254); a power phase is requested only by a WRITE (42_search_rom.md R205), and only where STRONG_PULLUP is true
(00_scope.md R6). -/
abbrev State.Lifecycle (s : State) : Prop :=
  (s.status.op ≠ .none → s.status.state = .ready ∨ s.status.state = .pullUp) ∧
  (s.bound = true ↔ s.status.state = .ready ∨ s.status.state = .pullUp) ∧
  (s.status.needPullup = true → s.status.op = .write ∧ s.search.phase = .idle) ∧
  (s.status.needPullup = true ∨ s.status.op = .pullup → s.params.strongPullup = true)

/-- SEARCH.phase names the sub-operation in flight (10_state.md R53; 42_search_rom.md R201 to R210). -/
abbrev State.PhaseMatches (s : State) : Prop :=
  (s.search.phase = .idle → s.status.op ≠ .triplet ∧ (s.status.op = .write → s.wsrc = .memory)) ∧
  (s.search.phase = .reset → s.status.op = .reset) ∧
  (s.search.phase = .cmd → s.status.op = .write ∧ s.wsrc = .searchRom) ∧
  (s.search.phase = .triplet → s.status.op = .triplet) ∧
  (s.search.phase ≠ .idle → s.search.devicesFound < s.rmax)

/-- Where each operation stands in its slot sequence (10_state.md R58 point 5; 41_bit_io.md R158 to R165; 42_search_rom.md
R211, R217, R218). A slot is open only while PG runs. -/
def State.sequenceOk (s : State) : Bool :=
  (!s.pg.slotOpen || s.pgctl.run) &&
  match s.status.op with
  | .none => !s.pgctl.sampleEn
  | .pullup => !s.pgctl.sampleEn
  | .reset =>
    if s.status.finalTimeslot then s.pgctl.sampleEn == s.pg.slotOpen else s.pgctl.sampleEn && !s.pg.slotOpen
  | .read =>
    if s.status.finalTimeslot then
      s.pgctl.sampleEn == s.pg.slotOpen &&
      (if s.pgctl.sampleEn then decide (s.status.bytes = 1) && decide (s.status.bit = 7)
       else decide (s.status.bytes = 0) && decide (s.status.bit = 0))
    else
      s.pgctl.sampleEn && decide (s.status.bytes ≠ 0) &&
      !(s.pg.slotOpen && decide (s.status.bytes = 1) && decide (s.status.bit = 7))
  | .write =>
    !s.pgctl.sampleEn &&
    (if s.status.bytes = 0 then decide (s.status.bit = 0)
     else !s.status.finalTimeslot && (decide (s.wsrc = .memory) || decide (s.status.bytes = 1)))
  | .triplet =>
    if s.status.finalTimeslot then
      s.pgctl.sampleEn == s.pg.slotOpen &&
      (if s.search.bitStep = .slotW then decide (s.search.rombit = 63)
       else decide (s.search.result = .error) && !s.pgctl.sampleEn)
    else
      s.pgctl.sampleEn && !(s.pg.slotOpen && decide (s.search.bitStep = .slotW) && decide (s.search.rombit = 63))

/-- Every field stays inside the range the spec declares for it (00_scope.md R11; 10_state.md R39, R46, R54, R55). -/
abbrev State.InRange (s : State) : Prop :=
  s.status.bytes.toNat ≤ s.params.countMax ∧
  s.search.devicesFound ≤ s.rmax ∧ s.rmax.toNat ≤ s.params.devMax ∧
  s.cursor.toNat < 2 ^ s.params.addrW ∧ s.rbuf.toNat < 2 ^ s.params.addrW ∧ s.puTime.toNat < 2 ^ s.params.puBits ∧
  (-1 ≤ s.branch.lastZero.toInt ∧ s.branch.lastZero.toInt ≤ 63) ∧
  (-1 ≤ s.branch.prevZero.toInt ∧ s.branch.prevZero.toInt ≤ 63)

/-- The control invariant of a machine with no fault recorded. -/
abbrev State.Control (s : State) : Prop :=
  s.Handshake ∧ s.Lifecycle ∧ s.PhaseMatches ∧ s.sequenceOk = true

/-- No host is listed twice as stuck, nor as halted: it has no step after the first time (20_memory.md R84,
70_reset_and_hazards.md R320). -/
abbrev State.HostsOnce (s : State) : Prop := s.stuck.hosts.Nodup ∧ (s.halts.map Halt.host).Nodup

/-- The invariant of every state: legal parameters, canonical memory, fields in range, hosts listed once, a host that is
never resumed where BSM is stuck (20_memory.md R87), and the control invariant while no fault is recorded ("in every reachable state in which
no fault is recorded", 10_state.md R58). -/
abbrev State.Inv (s : State) : Prop :=
  s.params.ok = true ∧ s.mem.wf = true ∧ s.InRange ∧ s.HostsOnce ∧ (s.stuck.bsm = true → s.status.waiter = true) ∧
  (s.fault.valid = false → s.Control)

/-- The buffer discipline (20_memory.md R86, R87): no withdrawn byte has been reached, and the bytes the operation in
flight has still to touch are admitted and lie in the buffer OWE owns. -/
abbrev State.BufferOk (s : State) : Prop :=
  s.stuck.bsm = false ∧
  (s.fault.valid = false →
    (s.search.phase = .idle → s.status.op = .read ∨ s.status.op = .write → s.status.bytes ≠ 0 →
      s.validRange s.cursor.toNat s.status.bytes.toNat = true ∧
      s.arg0.toNat ≤ s.cursor.toNat ∧
      s.cursor.toNat + s.status.bytes.toNat = s.arg0.toNat + s.arg1.toNat) ∧
    (s.search.phase ≠ .idle → s.validRange s.rbuf.toNat (8 * s.rmax.toNat) = true))

/-- An upper bound on the events that can still come before the blocked host is resumed (41_bit_io.md R170;
42_search_rom.md R223: a pass has at most 3 + 9 + 6·64 + 1 events). -/
def State.eventBound (s : State) : Nat :=
  if s.search.phase ≠ .idle then 397 * (s.rmax.toNat - s.search.devicesFound.toNat)
  else
    match s.status.op with
    | .none => 0
    | .reset => 3
    | .read => 16 * s.status.bytes.toNat + 2
    | .write => 8 * s.status.bytes.toNat + 3
    | .triplet => 0
    | .pullup => 1

/-- The input this step takes changes the memory map (the platform withdraws or adds memory). -/
def State.mapChanges (s : State) : Bool :=
  match s.arrival with
  | some (.memMap _, _) => true
  | _ => false

/-- The input this step takes is a host's store into its own memory. A store that a blocked host's wait holds back is
not taken. -/
def State.hostStores (s : State) : Bool :=
  match s.arrival with
  | some (.host _ (.store _ _), _) => true
  | _ => false

/-- The input this step takes is a power-on reset. -/
def State.powersOn (s : State) : Bool :=
  match s.arrival with
  | some (.powerOn, _) => true
  | _ => false

/-! ### Observing memory and registers -/

/-- Every register and internal register of OWE (10_state.md R31) is the same in both states. -/
abbrev State.SameOwe (s t : State) : Prop :=
  t.status = s.status ∧ t.search = s.search ∧ t.branch = s.branch ∧ t.rom = s.rom ∧ t.prev = s.prev ∧
  t.result = s.result ∧ t.fault = s.fault ∧ t.config = s.config ∧ t.pgctl = s.pgctl ∧ t.arg0 = s.arg0 ∧
  t.arg1 = s.arg1 ∧ t.arg2 = s.arg2 ∧ t.cursor = s.cursor ∧ t.acc = s.acc ∧ t.wbyte = s.wbyte ∧ t.wsrc = s.wsrc ∧
  t.puTime = s.puTime ∧ t.rbuf = s.rbuf ∧ t.rmax = s.rmax

/-- Every byte of host memory outside [a, a + len) reads the same in both states. -/
abbrev State.SameMemOutside (s t : State) (a len : Nat) : Prop :=
  ∀ x : Nat, x < a ∨ a + len ≤ x → t.mem.read x = s.mem.read x

/-- Every byte of host memory reads the same in both states. -/
abbrev State.SameMem (s t : State) : Prop := ∀ x : Nat, t.mem.read x = s.mem.read x

/-! ### Runs of several instructions -/

/-- The instructions in order, up to the first fault or refusal. -/
def execAll : List Instr → State → Result
  | [], s => .next s
  | i :: rest, s =>
    match exec i s with
    | .next t => execAll rest t
    | .fault r => .fault r
    | .refused r => .refused r

/-- The low-pulse kinds PG latched, one for each MASTER of the run (41_bit_io.md R150, R154); none where it stops. -/
def slotTrace : Nat → State → Option (List LowPulse)
  | 0, _ => some []
  | n + 1, s =>
    match exec (.master false) s with
    | .next t =>
      match slotTrace n t with
      | some rest => some (t.pg.slotLow :: rest)
      | none => none
    | .fault _ => none
    | .refused _ => none

/-- The bits of a byte, least significant first (20_memory.md R81). -/
def byteBits (b : Byte) : List Bool := (List.range 8).map b.getLsbD

/-- The events of a READ whose pins are the bits of `bytes`: MASTER then SAMPLE for each bit, then the MASTER that ends
the last slot (41_bit_io.md R163). -/
def readEvents (bytes : List Byte) : List Instr :=
  (bytes.flatMap byteBits).flatMap (fun pin => [Instr.master false, .sample pin]) ++ [.master false]

/-- The events of one triplet: slots A and B read `a` and `b`, slot W samples `w` (42_search_rom.md R210 to R217). -/
def tripletEvents (a b w : Bool) : List Instr :=
  [.master false, .sample a, .master false, .sample b, .master false, .sample w]

/-- The events of one full search pass on a bus where one device answers with code `rom`: a presence pulse, the nine
MASTERs of the command byte, 64 triplets whose slot W samples `w`, and the final MASTER (42_search_rom.md R203 to
R217). -/
def singleDeviceEvents (rom : BitVec 64) (w : Nat → Bool) : List Instr :=
  [.master false, .sample false, .master false] ++ List.replicate 9 (.master false) ++
  (List.range 64).flatMap (fun i => tripletEvents (rom.getLsbD i) (!rom.getLsbD i) (w i)) ++ [.master false]

/-- `k` steps of the machine. -/
def runSteps : Nat → State → Result
  | 0, s => .next s
  | k + 1, s =>
    match step s with
    | .next t => runSteps k t
    | .fault r => .fault r
    | .refused r => .refused r

end Sys2Proof.Machine
end

