-- ==== Sys2Proof/Certificates/Slice0/Obligations.lean ====
section
/-! DEFINITION. The statements about the OWE model, each from the numbered rules of spec/. Where a statement rests on a
choice of the model's, its docstring names the log entry. The field pg of a next state is PG's own: the latch of 41_bit_io.md
R150 and the slot in progress of R152 and 60_exceptions.md R285; MasterReady and SampleReady say that the event is in PG's
order. -/

open Sys2Proof Sys2Proof.Machine

/-! ## Encoding -/

/-- 30_encoding.md R101, R111: every legal word decodes to its instruction, the SAMPLE pin at both values. -/
def Obligations.EncodedInstructionDecodesBack : Prop :=
  ∀ i : Instr, i.wellFormed = true → decode (encode i) = .ok i

/-- 30_encoding.md R101 ("a CMD word is decoded exactly"), R111, R120, R121: a word of either port that decodes is the
word of the instruction it decodes to, and that instruction is legal. -/
def Obligations.DecodedWordIsItsEncoding : Prop :=
  ∀ (p : PortWord) (i : Instr), decode p = .ok i → i.wellFormed = true ∧ encode i = p

/-- 30_encoding.md R101, R111: words of every family, written out from the tables. -/
def Obligations.SpecEncodingsDecode : Prop :=
  decode (.command 0b00000000000000000000000000000001#32) = .ok .objinit ∧
  decode (.command 0b00000000000000000000000000000100#32) = .ok .reset ∧
  decode (.command 0b00000000000000000000000000000111#32) = .ok .search ∧
  decode (.command 0b00000000000000000000000000001000#32) = .ok .crc8 ∧
  decode (.event 0b001#3) = .ok (.master false) ∧
  decode (.event 0b010#3) = .ok (.sample false) ∧
  decode (.event 0b110#3) = .ok (.sample true) ∧
  decode (.event 0b011#3) = .ok (.pullupEnd false) ∧
  decode (.command 0b00000000000000000000000000010100#32) = .error (.reservedOpcode 0x14)

/-- 30_encoding.md R111, R120: the event word with code 0 causes no step; a MASTER or PULLUP_END word with pin = 1 is
refused by name, at the port and as an instruction (93 U6; log 12, log 17). -/
def Obligations.EventWordsOutsideTheTable : Prop :=
  ∀ (s : State) (w : BitVec 3) (rest : List Input), s.inputs = .event w :: rest →
    (w = 0b000#3 ∨ w = 0b100#3 → step s = .next { s with inputs := rest }) ∧
    (w = 0b101#3 ∨ w = 0b111#3 → step s = .refused .illegalEventWord) ∧
    exec (.master true) s = .refused .illegalEventWord ∧ exec (.pullupEnd true) s = .refused .illegalEventWord

/-- 30_encoding.md R120: "A CMD word outside 0x00000001 .. 0x00000008 is reserved and raises Fault(RESERVED_OPCODE,
info = CMD[7:0])", before every other check (60_exceptions.md R275), whichever host that has a
step writes it (10_state.md R36; log 10). -/
def Obligations.ReservedCommandWordFaults : Prop :=
  ∀ (s : State) (who : HostId) (w : Word) (rest : List Input),
    s.inputs = .host who (.write 0x00 .word w) :: rest → s.CanAct who → s.fault.valid = false → w.toNat = 0 ∨ 8 < w.toNat →
    step s = .next (State.raiseFault { s with inputs := rest } .reservedOpcode (w.extractLsb' 0 8))

/-! ## What a step runs -/

/-- A word written to CMD that decodes to an instruction runs that instruction (30_encoding.md R101, R105), in the
state without that input. `who` is a host that is neither blocked (10_state.md R36) nor stuck (log 10); where no host is
blocked it becomes the caller, the one that a blocking command suspends (00_scope.md R8, 30_encoding.md R113; log 30). -/
def Obligations.StepRunsTheCommandWritten : Prop :=
  ∀ (s : State) (who : HostId) (w : Word) (i : Instr) (rest : List Input),
    s.inputs = .host who (.write 0x00 .word w) :: rest → s.CanAct who → decode (.command w) = .ok i →
    step s = exec i { s with
      inputs := rest, caller := if s.fault.valid || s.status.waiter then s.caller else who }

/-- A legal event word at the event port runs its event (30_encoding.md R111), in the state without that input. -/
def Obligations.StepRunsTheEventDelivered : Prop :=
  ∀ (s : State) (w : BitVec 3) (i : Instr) (rest : List Input),
    s.inputs = .event w :: rest → decode (.event w) = .ok i → step s = exec i { s with inputs := rest }

/-- The word an opcode-table row gives, placed by withFetchWord, is what the next step runs (log 1, log 18): an event word,
and a CMD word, which some host that has a step writes (log 30). -/
def Obligations.FetchedTableWordRuns : Prop :=
  ∀ (s : State) (nbits w : Nat) (i : Instr), decodeTableWord nbits w = some i →
    (nbits ≤ 8 → step (s.withFetchWord nbits w) = exec i s) ∧
    (8 < nbits → ∃ who : HostId, s.CanAct who ∧
      step (s.withFetchWord nbits w) =
        exec i { s with caller := if s.fault.valid || s.status.waiter then s.caller else who })

/-- PG and PUT keep their contracts (60_exceptions.md R283, R285; 41_bit_io.md R152): where nothing arrives, or the
first input is an action of the blocked host, which waits (10_state.md R36; log 1, log 2), a running PG delivers the SAMPLE that is
due, with a pin that is a free value (log 4), else a MASTER; a running PUT delivers PULLUP_END; and an idle machine
whose hosts are not stuck stays as it is (log 15). -/
def Obligations.EnvironmentKeepsItsContract : Prop :=
  ∀ s : State, s.NothingArrives → s.Answers →
    (s.SampleReady → step s = exec (.sample (Config.pinDraw s.draws)) { s with draws := s.draws + 1 }) ∧
    (s.MasterReady → step s = exec (.master false) s) ∧
    (s.pgctl.run = false → s.put.isSome = true → step s = exec (.pullupEnd false) s) ∧
    (s.pgctl.run = false → s.put = none → s.status.waiter = false → s.stuck.hosts = [] →
      step s = .next s)

/-! ## Faults -/

/-- 60_exceptions.md R271: what `raise Fault(cause, info)` writes, and that a fault is precise: where an instruction
records a fault, the state it leaves is the state before it plus these writes, and nothing else. -/
def Obligations.FaultEntryIsPrecise : Prop :=
  (∀ (s : State) (cause : FaultCause) (info : Byte), s.raiseFault cause info = { s with
    fault := { valid := true, cause := cause, info := info }
    pgctl := { s.pgctl with run := false, sampleEn := false, nextLow := .none, puAsserted := false }
    pg := { s.pg with slotOpen := false }
    put := none }) ∧
  ∀ (i : Instr) (s t : State), exec i s = .next t → s.fault.valid = false → t.fault.valid = true →
    ∃ (cause : FaultCause) (info : Byte), cause ≠ .none ∧ t = { s with
      fault := { valid := true, cause := cause, info := info }
      pgctl := { s.pgctl with run := false, sampleEn := false, nextLow := .none, puAsserted := false }
      pg := { s.pg with slotOpen := false }
      put := none }

/-- 60_exceptions.md R272, 70_reset_and_hazards.md R300: in the faulted state OWE takes no step: no instruction changes
anything, a register write has no effect, a register read returns the current value, whatever arrives but a power-on
reset no register of OWE changes, and a power-on reset clears FAULT.valid. -/
def Obligations.FaultedMachineTakesNoStep : Prop :=
  ∀ s : State, s.fault.valid = true →
    (∀ i : Instr, i.wellFormed = true → exec i s = .next s) ∧
    (∀ (who : HostId) (r : Reg) (v : Word) (rest : List Input), s.CanAct who →
      (s.inputs = .host who (.write r.offset .word v) :: rest → step s = .next { s with inputs := rest }) ∧
      (s.inputs = .host who (.read r.offset .word) :: rest →
        step s = .next { s with inputs := rest, readData := s.readReg r })) ∧
    (s.powersOn = false → ∀ t : State, step s = .next t → s.SameOwe t) ∧
    (s.powersOn = true → ∃ t : State, step s = .next t ∧ t.fault = { valid := false, cause := .none, info := 0 })

/-- 43_lifecycle.md R254, the command legality table (which the spec marks as derived). With waiter = 1 every command
raises BUSY, whatever its operands and the driver state; with waiter = 0, a command outside its driver states raises
BAD_STATE, and in its driver states none does: OBJINIT is accepted and goes to STOP, START goes to READY where its
configuration is valid, STOP goes to STOP, and RESET, READ, WRITE, SEARCH and (in every state) CRC8 meet their operand
checks only. -/
def Obligations.CommandLegalityByState : Prop :=
  ∀ s : State, s.fault.valid = false →
    (s.status.waiter = true →
      exec .objinit s = .next (s.raiseFault .busy 0x1) ∧ exec .start s = .next (s.raiseFault .busy 0x2) ∧
      exec .stop s = .next (s.raiseFault .busy 0x3) ∧ exec .reset s = .next (s.raiseFault .busy 0x4) ∧
      exec .read s = .next (s.raiseFault .busy 0x5) ∧ exec .write s = .next (s.raiseFault .busy 0x6) ∧
      exec .search s = .next (s.raiseFault .busy 0x7) ∧ exec .crc8 s = .next (s.raiseFault .busy 0x8)) ∧
    (s.status.waiter = false →
      (s.status.state ≠ .uninit → exec .objinit s = .next (s.raiseFault .badState 0x1)) ∧
      (s.status.state ≠ .stop → exec .start s = .next (s.raiseFault .badState 0x2)) ∧
      (s.status.state = .uninit → exec .stop s = .next (s.raiseFault .badState 0x3)) ∧
      (s.status.state ≠ .ready →
        exec .reset s = .next (s.raiseFault .badState 0x4) ∧ exec .read s = .next (s.raiseFault .badState 0x5) ∧
        exec .write s = .next (s.raiseFault .badState 0x6) ∧ exec .search s = .next (s.raiseFault .badState 0x7)) ∧
      (s.status.state = .uninit → ∃ t, exec .objinit s = .next t ∧ t.status.state = .stop ∧ t.fault = s.fault) ∧
      (s.status.state = .stop → s.configValid s.arg0 = true →
        ∃ t, exec .start s = .next t ∧ t.status.state = .ready ∧ t.fault = s.fault) ∧
      (s.status.state ≠ .uninit → ∃ t, exec .stop s = .next t ∧ t.status.state = .stop ∧ t.fault = s.fault) ∧
      (∀ (i : Instr) (t : State),
        s.status.state = .ready ∧ (i = .reset ∨ i = .read ∨ i = .write ∨ i = .search) ∨ i = .crc8 →
        exec i s = .next t → t.fault.valid = true → t.fault.cause ≠ .badState ∧ t.fault.cause ≠ .busy))

/-- 60_exceptions.md R275 point 4: the operand checks of READ, WRITE and SEARCH, in their order. -/
def Obligations.OperandChecksInOrder : Prop :=
  ∀ s : State, s.IssueReady →
    (s.status.state = .ready → s.arg1.toNat = 0 ∨ s.params.countMax < s.arg1.toNat →
      exec .read s = .next (s.raiseFault .badCount 0x5) ∧ exec .write s = .next (s.raiseFault .badCount 0x6)) ∧
    (s.status.state = .ready → 1 ≤ s.arg1.toNat → s.arg1.toNat ≤ s.params.countMax →
      s.validRange s.arg0.toNat s.arg1.toNat = false →
      exec .read s = .next (s.raiseFault .badBuffer 0x5) ∧ exec .write s = .next (s.raiseFault .badBuffer 0x6)) ∧
    (s.status.state = .ready → s.arg1.toNat = 0 ∨ s.params.devMax < s.arg1.toNat →
      exec .search s = .next (s.raiseFault .badMax 0x7)) ∧
    (s.status.state = .ready → 1 ≤ s.arg1.toNat → s.arg1.toNat ≤ s.params.devMax →
      s.validRange s.arg0.toNat (8 * s.arg1.toNat) = false → exec .search s = .next (s.raiseFault .badBuffer 0x7))

/-- 00_scope.md R6, 20_memory.md R87: `Valid` accepts exactly a range of admitted bytes that does not start at the null
address and does not wrap, and each of them is reached (which bytes are admitted is the map of log 7); and where the byte
that a READ stores or a WRITE fetches, or one of the eight bytes in which the end of a SEARCH pass records a code whose
CRC is right, has been withdrawn since, the response has no step: BSM and SRC are stuck and nothing else changes (93 U5;
log 9). No event has an effect then, a host that has a step still acts, and where no agent can move the model stops. The
last clause is the model's choice, which the spec does not settle (DESIGN CHOICE, log 31): a power-on reset gives a stuck
BSM a step again. -/
def Obligations.ValidBytesAreReachedWithdrawnOnesStop : Prop :=
  (∀ (s : State) (a len : Nat), s.validRange a len = true ↔
    a ≠ 0 ∧ a + len ≤ 2 ^ s.params.addrW ∧ ∀ k < len, s.memRead (a + k) = some (s.mem.read (a + k))) ∧
  (∀ (s : State) (pin : Bool), s.SampleReady → s.status.op = .read → s.status.bit = 7 →
    s.byteAdmitted s.cursor.toNat = false →
    exec (.sample pin) s = .next { s with stuck := { s.stuck with bsm := true } }) ∧
  (∀ s : State, s.MasterReady → s.status.op = .write → s.status.finalTimeslot = false → s.status.bytes ≠ 0 →
    s.status.bytes ≠ 1 → s.status.bit = 7 → s.wsrc = .memory →
    s.byteAdmitted (BitVec.ofNat 32 ((s.cursor.toNat + 1) % 2 ^ s.params.addrW)).toNat = false →
    exec (.master false) s = .next { s with stuck := { s.stuck with bsm := true } }) ∧
  (∀ s : State, s.MasterReady → s.status.op = .triplet → s.search.phase = .triplet → s.status.finalTimeslot = true →
    s.search.result ≠ .error → crc8 ((romBytes s.rom).take 7) = s.rom.extractLsb' 56 8 →
    (∃ j < 8, s.byteAdmitted ((s.rbuf.toNat + 8 * s.search.devicesFound.toNat + j) % 2 ^ s.params.addrW) = false) →
    exec (.master false) s = .next { s with stuck := { s.stuck with bsm := true } }) ∧
  (∀ s : State, s.stuck.bsm = true →
    exec (.master false) s = .next s ∧ (∀ pin : Bool, exec (.sample pin) s = .next s) ∧
    exec (.pullupEnd false) s = .next s ∧ (s.inputs = [] → step s = .fault .byteWithdrawn) ∧
    (∀ (who : HostId) (act : HostAction) (rest : List Input), s.inputs = .host who act :: rest → s.CanAct who →
      step s = State.hostAct { s with inputs := rest } who act) ∧
    (s.powersOn = true → ∃ t : State, step s = .next t ∧ t.stuck.bsm = false))

/-- 41_bit_io.md R155: an event that has no response in the current state, a SAMPLE while sample_en = 0, an event while
run = 0, and an event outside the order of R152 (the model's reading, log 3) raise Fault(SPURIOUS_EVENT, code), where
OWE answers events. -/
def Obligations.SpuriousEventsFault : Prop :=
  ∀ (s : State) (pin : Bool), s.Answers →
    (s.pgctl.run = false ∨ s.status.op = .none ∨ s.status.op = .pullup ∨
        (s.pg.slotOpen = true ∧ s.pgctl.sampleEn = true) →
      exec (.master false) s = .next (s.raiseFault .spuriousEvent 1)) ∧
    (s.pgctl.run = false ∨ s.pgctl.sampleEn = false ∨ s.status.op = .none ∨ s.status.op = .write ∨
        s.status.op = .pullup ∨ s.pg.slotOpen = false →
      exec (.sample pin) s = .next (s.raiseFault .spuriousEvent 2)) ∧
    (s.status.op ≠ .pullup → exec (.pullupEnd false) s = .next (s.raiseFault .spuriousEvent 3))

/-! ## The lifecycle commands and CRC8 -/

/-- 43_lifecycle.md R250 with the last column of 10_state.md R60: OBJINIT in UNINIT sets every field to its value after
OBJINIT (ARG0 to ARG2 and FAULT keep theirs), RESULT to 0; otherwise it raises BUSY, or BAD_STATE. -/
def Obligations.ObjinitSetsEveryField : Prop :=
  ∀ s : State, s.fault.valid = false →
    (s.status.waiter = true → exec .objinit s = .next (s.raiseFault .busy 0x1)) ∧
    (s.status.waiter = false → s.status.state ≠ .uninit → exec .objinit s = .next (s.raiseFault .badState 0x1)) ∧
    (s.status.waiter = false → s.status.state = .uninit → exec .objinit s = .next { s with
      status := { state := .stop, bit := 0, finalTimeslot := false, needPullup := false, slavePresent := false,
                  op := .none, waiter := false, bytes := 0 }
      search := { singleDevice := false, kind := .first, result := .success, bitStep := .slotA, bitBuf := 0,
                  rombit := 0, phase := .idle, devicesFound := 0 }
      branch := { lastZero := 0xFF, prevZero := 0xFF }
      pgctl := { run := false, periodSel := false, nextLow := .none, sampleEn := false, sampleSel := false,
                 puAsserted := false }
      rom := 0, prev := 0, result := 0, config := 0, cursor := 0, acc := 0, wbyte := 0, wsrc := .memory
      puTime := 0, rbuf := 0, rmax := 0 })

/-- 43_lifecycle.md R251 and R252: START in STOP with a configuration word that passes the six checks binds it and
enters READY; with one that fails a check it raises BAD_CONFIG; otherwise it raises BUSY, or BAD_STATE. -/
def Obligations.StartBindsAValidConfiguration : Prop :=
  ∀ s : State, s.fault.valid = false →
    let ok : Prop := s.arg0.getLsbD 8 = true ∧ s.arg0.getLsbD 9 = true ∧
      (s.arg0.extractLsb' 0 4).toNat < s.params.pgChannels ∧ (s.arg0.extractLsb' 4 4).toNat < s.params.pgChannels ∧
      s.arg0.extractLsb' 0 4 ≠ s.arg0.extractLsb' 4 4 ∧ s.arg0.getLsbD 10 = s.arg0.getLsbD 11 ∧
      s.arg0.extractLsb' 12 20 = 0
    (s.status.waiter = true → exec .start s = .next (s.raiseFault .busy 0x2)) ∧
    (s.status.waiter = false → s.status.state ≠ .stop → exec .start s = .next (s.raiseFault .badState 0x2)) ∧
    (s.status.waiter = false → s.status.state = .stop → ¬ ok →
      exec .start s = .next (s.raiseFault .badConfig 0x2)) ∧
    (s.status.waiter = false → s.status.state = .stop → ok →
      ∃ c : BitVec 13, c.getLsbD 12 = true ∧ c.extractLsb' 0 12 = s.arg0.extractLsb' 0 12 ∧
      exec .start s = .next { s with
        config := c
        pgctl := { run := false, periodSel := false, nextLow := .none, sampleEn := false, sampleSel := false,
                   puAsserted := false }
        pg := { s.pg with slotOpen := false }
        status := { s.status with state := .ready }
        result := 0 })

/-- 43_lifecycle.md R253: STOP in every state but UNINIT goes to STOP, unbinds the configuration and releases the pulse
generator; otherwise it raises BUSY, or BAD_STATE. -/
def Obligations.StopReleasesTheGenerator : Prop :=
  ∀ s : State, s.fault.valid = false →
    (s.status.waiter = true → exec .stop s = .next (s.raiseFault .busy 0x3)) ∧
    (s.status.waiter = false → s.status.state = .uninit → exec .stop s = .next (s.raiseFault .badState 0x3)) ∧
    (s.status.waiter = false → s.status.state ≠ .uninit → exec .stop s = .next { s with
      config := 0
      pgctl := { run := false, periodSel := false, nextLow := .none, sampleEn := false, sampleSel := false,
                 puAsserted := false }
      pg := { s.pg with slotOpen := false }
      status := { s.status with state := .stop }
      result := 0 })

/-- 70_reset_and_hazards.md R305, R306: after OBJINIT from UNINIT (as power-on reset leaves it) and START with a valid
configuration word, the clean-entry premise Ready0 holds; and CRC8 keeps it. -/
def Obligations.BootReachesReady0 : Prop :=
  (∀ s : State, s.IssueReady → s.status.state = .uninit → s.put = none → s.stuck.bsm = false →
    s.configValid s.arg0 = true →
    ∃ t : State, execAll [.objinit, .start] s = .next t ∧ t.Ready0) ∧
  (∀ s t : State, s.Ready0 → exec .crc8 s = .next t → t.fault.valid = false → t.Ready0)

/-- 10_state.md R32, 43_lifecycle.md R250, R251, R253, 41_bit_io.md R166, R167: the driver state changes only by
OBJINIT from UNINIT, START from STOP, STOP, the MASTER that ends a WRITE with a pull-up phase, and the PULLUP_END of
that phase. -/
def Obligations.DriverStateChangesOnlyByItsTransitions : Prop :=
  ∀ (i : Instr) (s t : State), exec i s = .next t → t.status.state ≠ s.status.state →
    (i = .objinit ∧ s.status.state = .uninit ∧ t.status.state = .stop) ∨
    (i = .start ∧ s.status.state = .stop ∧ t.status.state = .ready) ∨
    (i = .stop ∧ s.status.state ≠ .uninit ∧ t.status.state = .stop) ∨
    (i = .master false ∧ s.status.op = .write ∧ s.status.finalTimeslot = true ∧ s.status.needPullup = true ∧
      t.status.state = .pullUp) ∨
    (i = .pullupEnd false ∧ s.status.op = .pullup ∧ t.status.state = .ready)

/-- 10_state.md R36, 41_bit_io.md R157, R167, 42_search_rom.md R222: a blocked host is resumed only by its operation's
terminal event: the MASTER that finds final_timeslot = 1, or the PULLUP_END of the power phase; no operation is in flight
after it, no fault has been recorded by it, and (after the PULLUP_END: from every state that meets the invariant) no
SEARCH is in flight. -/
def Obligations.HostIsResumedOnlyByTheTerminalEvent : Prop :=
  ∀ (i : Instr) (s t : State), exec i s = .next t → s.status.waiter = true → t.status.waiter = false →
    (i = .master false ∧ s.status.finalTimeslot = true ∧ t.search.phase = .idle ∨
      i = .pullupEnd false ∧ s.status.op = .pullup ∧ t.search.phase = s.search.phase) ∧
    (s.Inv → t.search.phase = .idle) ∧ t.status.op = .none ∧ t.fault = s.fault

/-- 40_crc8.md R141: CRC8 in every driver state: its checks in their order, and otherwise RESULT is the CRC of the L
bytes at ARG0, zero-extended, and nothing else changes. -/
def Obligations.Crc8ReturnsTheBufferChecksum : Prop :=
  ∀ s : State, s.fault.valid = false →
    let valid : Prop := s.validRange s.arg0.toNat s.arg1.toNat = true
    (s.status.waiter = true → exec .crc8 s = .next (s.raiseFault .busy 0x8)) ∧
    (s.status.waiter = false → s.params.countMax < s.arg1.toNat →
      exec .crc8 s = .next (s.raiseFault .badCount 0x8)) ∧
    (s.status.waiter = false → s.arg1.toNat ≤ s.params.countMax → s.arg1.toNat ≠ 0 → ¬ valid →
      exec .crc8 s = .next (s.raiseFault .badBuffer 0x8)) ∧
    (s.status.waiter = false → s.arg1.toNat ≤ s.params.countMax → s.arg1.toNat = 0 ∨ valid →
      exec .crc8 s = .next { s with
        result := (crc8 ((List.range s.arg1.toNat).map (fun j => s.mem.read (s.arg0.toNat + j)))).setWidth 32 })

/-! ## The CRC-8 function -/

/-- 40_crc8.md R140: CRC8 starts at 0, and each byte of the string, in order, is folded in by the eight inner steps of
the bit-serial procedure, LSB first, with the polynomial 0x8C; and its value on 0x80 and on 0x01, worked out by hand.
R142, the four laws (which the spec marks as derived): the append law with its consequence for a ROM code, linearity over
equal-length strings, single-bit detection, and the table-driven form with T[b] = CRC8(b). -/
def Obligations.Crc8Laws : Prop :=
  crc8 [] = 0 ∧
  (∀ (bytes : List Byte) (d : Byte), crc8 (bytes ++ [d]) = (List.range 8).foldl
    (fun crc i => if (crc ^^^ (d >>> i)).getLsbD 0 then (crc >>> 1) ^^^ 0x8C else crc >>> 1) (crc8 bytes)) ∧
  crc8 [0x80] = 0x8C ∧ crc8 [0x01] = 0x5E ∧
  (∀ bytes : List Byte, crc8 (bytes ++ [crc8 bytes]) = 0) ∧
  (∀ code : List Byte, code.length = 8 → (crc8 (code.take 7) = code[7]! ↔ crc8 code = 0)) ∧
  (∀ a b : List Byte, a.length = b.length → crc8 (List.zipWith (· ^^^ ·) a b) = crc8 a ^^^ crc8 b) ∧
  (∀ (pre post : List Byte) (b : Byte) (k : Nat), k < 8 →
    crc8 (pre ++ [b ^^^ BitVec.twoPow 8 k] ++ post) ≠ crc8 (pre ++ [b] ++ post)) ∧
  (∀ bytes : List Byte, crc8 bytes = bytes.foldl (fun crc b => crc8 [crc ^^^ b]) 0)

/-! ## Acceptance of the bus commands -/

/-- 41_bit_io.md R160: the acceptance step of RESET. -/
def Obligations.ResetArmsThePresenceSlot : Prop :=
  ∀ s : State, s.IssueReady → s.status.state = .ready →
    exec .reset s = .next { s with
      status := { s.status with slavePresent := false, waiter := true, op := .reset, finalTimeslot := false }
      pgctl := { s.pgctl with periodSel := true, sampleSel := true, sampleEn := true, nextLow := .resetLow, run := true }
      pg := { s.pg with slotOpen := false } }

/-- 41_bit_io.md R163: the acceptance step of READ. -/
def Obligations.ReadArmsItsFirstSlot : Prop :=
  ∀ s : State, s.IssueReady → s.status.state = .ready → s.params.ok = true →
    1 ≤ s.arg1.toNat → s.arg1.toNat ≤ s.params.countMax → s.validRange s.arg0.toNat s.arg1.toNat = true →
    (s.arg1.setWidth 16).toNat = s.arg1.toNat ∧
    exec .read s = .next { s with
      cursor := s.arg0
      acc := 0
      status := { s.status with
        bytes := s.arg1.setWidth 16, bit := 0, waiter := true, op := .read, finalTimeslot := false }
      pgctl := { s.pgctl with periodSel := false, sampleSel := false, sampleEn := true, nextLow := .readLow, run := true }
      pg := { s.pg with slotOpen := false } }

/-- 41_bit_io.md R168: the acceptance step of WRITE: the first byte is read from memory, its bit 0 programmed, and
need_pullup set exactly when the duration is positive and has_pullup holds (10_state.md R44). -/
def Obligations.WriteProgramsItsFirstBit : Prop :=
  ∀ s : State, s.IssueReady → s.status.state = .ready → s.params.ok = true →
    1 ≤ s.arg1.toNat → s.arg1.toNat ≤ s.params.countMax → s.validRange s.arg0.toNat s.arg1.toNat = true →
    (s.arg1.setWidth 16).toNat = s.arg1.toNat ∧
    ∃ d : Word, d.toNat = s.arg2.toNat % 2 ^ s.params.puBits ∧
    exec .write s = .next { s with
      cursor := s.arg0
      wsrc := .memory
      wbyte := s.mem.read s.arg0.toNat
      puTime := d
      status := { s.status with
        bytes := s.arg1.setWidth 16, bit := 1, waiter := true, op := .write, finalTimeslot := false
        needPullup := decide (d ≠ 0) &&
          (s.params.strongPullup && s.config.getLsbD 10 && s.config.getLsbD 11) }
      pgctl := { s.pgctl with
        periodSel := false, sampleSel := false, sampleEn := false, run := true
        nextLow := if (s.mem.read s.arg0.toNat).getLsbD 0 then .w1Low else .w0Low }
      pg := { s.pg with slotOpen := false } }

/-- 42_search_rom.md R200 with R202, R203 and R204: the acceptance step of SEARCH starts the first pass with its reset
slot. -/
def Obligations.SearchStartsItsFirstPass : Prop :=
  ∀ s : State, s.IssueReady → s.status.state = .ready → s.params.ok = true →
    1 ≤ s.arg1.toNat → s.arg1.toNat ≤ s.params.devMax → s.validRange s.arg0.toNat (8 * s.arg1.toNat) = true →
    (s.arg1.setWidth 16).toNat = s.arg1.toNat ∧
    exec .search s = .next { s with
      rbuf := s.arg0
      rmax := s.arg1.setWidth 16
      search := { singleDevice := true, kind := .first, result := .success, bitStep := .slotA, bitBuf := 0, rombit := 0,
                  phase := .reset, devicesFound := 0 }
      branch := { lastZero := 0xFF, prevZero := 0xFF }
      prev := 0
      rom := 0
      status := { s.status with slavePresent := false, waiter := true, op := .reset, finalTimeslot := false }
      pgctl := { s.pgctl with periodSel := true, sampleSel := true, sampleEn := true, nextLow := .resetLow, run := true }
      pg := { s.pg with slotOpen := false } }

/-! ## The slot events of RESET, READ and WRITE -/

/-- 41_bit_io.md R157: Complete(v) stops PG and clears op; with no SEARCH in flight it resumes the host with v, else SRC
takes v (42_search_rom.md R201) in the same step. -/
def Obligations.CompleteResumesOrReturnsToSearch : Prop :=
  ∀ (s : State) (v : Word),
    (s.search.phase = .idle → s.complete v = some { s with
      result := v
      status := { s.status with op := .none, waiter := false }
      pgctl := { s.pgctl with run := false, sampleEn := false, nextLow := .none }
      pg := { s.pg with slotOpen := false } }) ∧
    (s.search.phase ≠ .idle → s.complete v = State.srcSubDone { s with
      status := { s.status with op := .none }
      pgctl := { s.pgctl with run := false, sampleEn := false, nextLow := .none }
      pg := { s.pg with slotOpen := false } } v)

/-- 41_bit_io.md R158: MASTER when op = RESET, with the final MASTER's completion for a RESET command. -/
def Obligations.MasterInResetSlot : Prop :=
  ∀ s : State, s.MasterReady → s.status.op = .reset →
    (s.status.finalTimeslot = false → exec (.master false) s = .next { s.latchSlot with
      pgctl := { s.pgctl with nextLow := .none }
      status := { s.status with finalTimeslot := true } }) ∧
    (s.status.finalTimeslot = true →
      exec (.master false) s = s.respond (s.latchSlot.complete (if s.status.slavePresent then 1 else 0))) ∧
    (s.status.finalTimeslot = true → s.search.phase = .idle → exec (.master false) s = .next { s.latchSlot with
      result := if s.status.slavePresent then 1 else 0
      status := { s.status with op := .none, waiter := false }
      pgctl := { s.pgctl with run := false, sampleEn := false, nextLow := .none }
      pg := { s.latchSlot.pg with slotOpen := false } })

/-- 41_bit_io.md R159: SAMPLE when op = RESET. -/
def Obligations.SampleInResetSlot : Prop :=
  ∀ (s : State) (pin : Bool), s.SampleReady → s.status.op = .reset →
    exec (.sample pin) s = .next { s with
      status := { s.status with slavePresent := if pin = false then true else false }
      pgctl := { s.pgctl with sampleEn := false }
      pg := { s.pg with slotOpen := false } }

/-- 41_bit_io.md R161: MASTER when op = READ, with the final MASTER's completion. -/
def Obligations.MasterInReadSlot : Prop :=
  ∀ s : State, s.MasterReady → s.status.op = .read →
    (s.status.finalTimeslot = true → exec (.master false) s = s.respond (s.latchSlot.complete 0)) ∧
    (s.status.finalTimeslot = false → s.status.bytes = 1 → s.status.bit = 7 →
      exec (.master false) s = .next { s.latchSlot with
        pgctl := { s.pgctl with nextLow := .none }
        status := { s.status with finalTimeslot := true } }) ∧
    (s.status.finalTimeslot = false → s.status.bytes ≠ 1 ∨ s.status.bit ≠ 7 →
      exec (.master false) s = .next s.latchSlot)

/-- 41_bit_io.md R162: SAMPLE when op = READ: the bit goes into acc at its place, LSB first; a whole byte is stored at
the cursor, where host memory still admits it. -/
def Obligations.SampleInReadSlot : Prop :=
  ∀ (s : State) (pin : Bool), s.SampleReady → s.status.op = .read →
    ∃ a : Byte, (∀ j < 8, a.getLsbD j = if j = s.status.bit.toNat then pin else s.acc.getLsbD j) ∧
    (s.status.bit ≠ 7 → exec (.sample pin) s = .next { s with
      acc := a
      status := { s.status with bit := s.status.bit + 1 }
      pg := { s.pg with slotOpen := false } }) ∧
    (s.status.bit = 7 → s.byteAdmitted s.cursor.toNat = true → exec (.sample pin) s = .next { s with
      mem := s.mem.write s.cursor.toNat a
      cursor := BitVec.ofNat 32 ((s.cursor.toNat + 1) % 2 ^ s.params.addrW)
      acc := 0
      status := { s.status with bytes := s.status.bytes - 1, bit := 0 }
      pgctl := { s.pgctl with sampleEn := if s.status.bytes = 1 then false else s.pgctl.sampleEn }
      pg := { s.pg with slotOpen := false } })

/-- 41_bit_io.md R164 and R165: MASTER when op = WRITE programs the next bit and advances the cursor, fetching the
next byte from its source, where host memory still admits it; the last bit's slot enters the final timeslot; the final
MASTER is FinishWrite (R166). -/
def Obligations.MasterInWriteSlot : Prop :=
  ∀ s : State, s.MasterReady → s.status.op = .write →
    let next : Word := BitVec.ofNat 32 ((s.cursor.toNat + 1) % 2 ^ s.params.addrW)
    let low : LowPulse := if s.wbyte.getLsbD s.status.bit.toNat then .w1Low else .w0Low
    (s.status.finalTimeslot = true → exec (.master false) s = s.respond s.latchSlot.finishWrite) ∧
    (s.status.finalTimeslot = false → s.status.bytes = 0 → exec (.master false) s = .next { s.latchSlot with
      pgctl := { s.pgctl with nextLow := .none }
      status := { s.status with finalTimeslot := true } }) ∧
    (s.status.finalTimeslot = false → s.status.bytes ≠ 0 → s.status.bit ≠ 7 →
      exec (.master false) s = .next { s.latchSlot with
        pgctl := { s.pgctl with nextLow := low }
        status := { s.status with bit := s.status.bit + 1 } }) ∧
    (s.status.finalTimeslot = false → s.status.bytes = 1 → s.status.bit = 7 →
      exec (.master false) s = .next { s.latchSlot with
        pgctl := { s.pgctl with nextLow := low }
        status := { s.status with bit := 0, bytes := 0 }
        cursor := next }) ∧
    (s.status.finalTimeslot = false → s.status.bytes ≠ 0 → s.status.bytes ≠ 1 → s.status.bit = 7 →
      s.wsrc = .memory → s.byteAdmitted next.toNat = true →
      exec (.master false) s = .next { s.latchSlot with
        pgctl := { s.pgctl with nextLow := low }
        status := { s.status with bit := 0, bytes := s.status.bytes - 1 }
        cursor := next
        wbyte := s.mem.read next.toNat }) ∧
    (s.status.finalTimeslot = false → s.status.bytes ≠ 0 → s.status.bytes ≠ 1 → s.status.bit = 7 →
      s.wsrc = .searchRom →
      exec (.master false) s = .next { s.latchSlot with
        pgctl := { s.pgctl with nextLow := low }
        status := { s.status with bit := 0, bytes := s.status.bytes - 1 }
        cursor := next
        wbyte := s.params.cmdSearchRom })

/-- 41_bit_io.md R166: FinishWrite starts the strong pull-up phase when need_pullup = 1, else completes with 0. -/
def Obligations.FinishWriteStartsThePullup : Prop :=
  ∀ s : State,
    (s.status.needPullup = true → s.finishWrite = some { s with
      status := { s.status with needPullup := false, state := .pullUp, op := .pullup }
      pgctl := { s.pgctl with run := false, sampleEn := false, nextLow := .none, puAsserted := true }
      pg := { s.pg with slotOpen := false }
      put := some s.puTime }) ∧
    (s.status.needPullup = false → s.finishWrite = s.complete 0)

/-- 41_bit_io.md R167: PULLUP_END when op = PULLUP releases the pull-up and resumes the host with 0. PUT is idle after
it (60_exceptions.md R283). -/
def Obligations.PullupEndResumesTheHost : Prop :=
  ∀ s : State, s.Answers → s.status.op = .pullup →
    exec (.pullupEnd false) s = .next { s with
      pgctl := { s.pgctl with puAsserted := false }
      status := { s.status with state := .ready, op := .none, waiter := false }
      result := 0
      put := none }

/-! ## The search -/

/-- 42_search_rom.md R211: MASTER when op = TRIPLET. -/
def Obligations.MasterInTriplet : Prop :=
  ∀ s : State, s.MasterReady → s.status.op = .triplet →
    (s.status.finalTimeslot = true → exec (.master false) s = s.respond (s.latchSlot.complete 0)) ∧
    (s.status.finalTimeslot = false → s.search.bitStep = .slotA →
      exec (.master false) s = .next { s.latchSlot with pgctl := { s.pgctl with nextLow := .readLow } }) ∧
    (s.status.finalTimeslot = false → s.search.bitStep = .slotB → exec (.master false) s = .next s.latchSlot) ∧
    (s.status.finalTimeslot = false → s.search.bitStep = .slotW → s.search.rombit = 63 →
      exec (.master false) s = .next { s.latchSlot with
        pgctl := { s.pgctl with nextLow := .none }
        status := { s.status with finalTimeslot := true } }) ∧
    (s.status.finalTimeslot = false → s.search.bitStep = .slotW → s.search.rombit ≠ 63 →
      exec (.master false) s = .next { s.latchSlot with pgctl := { s.pgctl with nextLow := .readLow } })

/-- 42_search_rom.md R212 and R217: SAMPLE in slots A and W of a triplet; in slot W the pin is ignored. -/
def Obligations.SampleInSlotsAAndW : Prop :=
  ∀ (s : State) (pin : Bool), s.SampleReady → s.status.op = .triplet →
    (s.search.bitStep = .slotA → ∃ buf : BitVec 2, buf.getLsbD 0 = pin ∧ buf.getLsbD 1 = s.search.bitBuf.getLsbD 1 ∧
      exec (.sample pin) s = .next { s with
        search := { s.search with bitBuf := buf, bitStep := .slotB }
        pg := { s.pg with slotOpen := false } }) ∧
    (s.search.bitStep = .slotW → s.status.finalTimeslot = true → exec (.sample pin) s = .next { s with
      pgctl := { s.pgctl with sampleEn := false }
      pg := { s.pg with slotOpen := false } }) ∧
    (s.search.bitStep = .slotW → s.status.finalTimeslot = false → exec (.sample pin) s = .next { s with
      search := { s.search with rombit := s.search.rombit + 1, bitStep := .slotA, bitBuf := 0 }
      pg := { s.pg with slotOpen := false } })

/-- 42_search_rom.md R213 with R214, R216 and R218: SAMPLE in slot B classifies the pair (A, B), A being bit_buf[0] and
B the pin: (1,1) aborts the pass; otherwise the chosen bit `v` is stored at ROM[rombit] and programmed for slot W, where
on a conflict v and the branch markers follow R214, the indices compared as signed values. -/
def Obligations.SampleInSlotBChoosesTheBit : Prop :=
  ∀ (s : State) (pin : Bool), s.SampleReady → s.status.op = .triplet → s.search.bitStep = .slotB →
    let i : Int := s.search.rombit.toNat
    let pz : Int := s.branch.prevZero.toInt
    ∃ buf : BitVec 2, buf.getLsbD 0 = s.search.bitBuf.getLsbD 0 ∧ buf.getLsbD 1 = pin ∧
    (s.search.bitBuf.getLsbD 0 = true → pin = true → exec (.sample pin) s = .next { s with
      search := { s.search with bitBuf := buf, result := .error }
      status := { s.status with finalTimeslot := true }
      pgctl := { s.pgctl with nextLow := .none, sampleEn := false }
      pg := { s.pg with slotOpen := false } }) ∧
    (¬ (s.search.bitBuf.getLsbD 0 = true ∧ pin = true) →
      ∃ (v single : Bool) (rom : BitVec 64) (br : BranchReg),
        exec (.sample pin) s = .next { s with
          search := { s.search with bitBuf := buf, bitStep := .slotW, singleDevice := single }
          rom := rom
          branch := br
          pgctl := { s.pgctl with nextLow := if v then .w1Low else .w0Low }
          pg := { s.pg with slotOpen := false } } ∧
        (∀ j < 64, rom.getLsbD j = if j = s.search.rombit.toNat then v else s.rom.getLsbD j) ∧
        (s.search.bitBuf.getLsbD 0 = false → pin = true →
          v = false ∧ single = s.search.singleDevice ∧ br = s.branch) ∧
        (s.search.bitBuf.getLsbD 0 = true → pin = false →
          v = true ∧ single = s.search.singleDevice ∧ br = s.branch) ∧
        (s.search.bitBuf.getLsbD 0 = false → pin = false → single = false ∧
          (i < pz → v = s.prev.getLsbD s.search.rombit.toNat ∧ br.prevZero = s.branch.prevZero ∧
            br.lastZero = if v then s.branch.lastZero else s.search.rombit.setWidth 8) ∧
          (i = pz → v = true ∧ br.prevZero = 0xFF ∧ br.lastZero = s.branch.lastZero) ∧
          (pz < i → v = false ∧ br.prevZero = s.branch.prevZero ∧ br.lastZero = s.search.rombit.setWidth 8)))

/-- 42_search_rom.md R201 and R204, R205, R210, R222: the end of a pass's reset and of its command byte. With no
presence the enumeration ends and the host gets the count (what SEARCH but its phase, BRANCH, ROM and PREV hold then is
open: 93 U2); with
presence the Search ROM byte is sent, never with a pull-up phase; and after it slot A of bit 0 is armed. -/
def Obligations.PassGoesFromResetToCommandToTriplets : Prop :=
  ∀ s : State, s.MasterReady → s.status.finalTimeslot = true →
    (s.search.phase = .reset → s.status.op = .reset → s.status.slavePresent = false →
      ∃ (reg : SearchReg) (br : BranchReg) (rom prev : BitVec 64), reg.phase = .idle ∧
      exec (.master false) s = .next { s.latchSlot with
        search := reg, branch := br, rom := rom, prev := prev
        result := s.search.devicesFound.setWidth 32
        status := { s.status with op := .none, waiter := false }
        pgctl := { s.pgctl with run := false, sampleEn := false, nextLow := .none }
        pg := { s.latchSlot.pg with slotOpen := false } }) ∧
    (s.search.phase = .reset → s.status.op = .reset → s.status.slavePresent = true →
      exec (.master false) s = .next { s.latchSlot with
        search := { s.search with phase := .cmd }
        wsrc := .searchRom
        wbyte := s.params.cmdSearchRom
        status := { s.status with
          bytes := 1, bit := 1, needPullup := false, op := .write, finalTimeslot := false }
        pgctl := { s.pgctl with
          periodSel := false, sampleSel := false, sampleEn := false, run := true
          nextLow := if s.params.cmdSearchRom.getLsbD 0 then .w1Low else .w0Low }
        pg := { s.latchSlot.pg with slotOpen := false } }) ∧
    (s.search.phase = .cmd → s.status.op = .write → s.status.needPullup = false →
      exec (.master false) s = .next { s.latchSlot with
        search := { s.search with phase := .triplet, rombit := 0, bitStep := .slotA, bitBuf := 0 }
        status := { s.status with op := .triplet, finalTimeslot := false }
        pgctl := { s.pgctl with
          periodSel := false, sampleSel := false, sampleEn := true, nextLow := .readLow, run := true }
        pg := { s.latchSlot.pg with slotOpen := false } })

/-- 42_search_rom.md R220, R221 and R222: a pass that was aborted, or whose code fails the CRC check, ends the
enumeration: nothing is stored and the host gets the count so far. What the Search-State holds then is open (93 U2). -/
def Obligations.FailedPassStoresNothing : Prop :=
  ∀ s : State, s.MasterReady → s.status.finalTimeslot = true → s.status.op = .triplet → s.search.phase = .triplet →
    s.search.result = .error ∨ crc8 ((romBytes s.rom).take 7) ≠ s.rom.extractLsb' 56 8 →
    ∃ (reg : SearchReg) (br : BranchReg) (rom prev : BitVec 64), reg.phase = .idle ∧
    exec (.master false) s = .next { s.latchSlot with
      search := reg, branch := br, rom := rom, prev := prev
      result := s.search.devicesFound.setWidth 32
      status := { s.status with op := .none, waiter := false }
      pgctl := { s.pgctl with run := false, sampleEn := false, nextLow := .none }
      pg := { s.latchSlot.pg with slotOpen := false } }

/-- 42_search_rom.md R202, R203, R220, R221 and R222: a pass whose code passes the CRC check stores its eight bytes at
rbuf + 8k, byte 0 first, and nowhere else, and counts it. With no unexplored branch, or at capacity, the enumeration
ends and the host gets the count; else the code becomes PREV and the next pass starts, with prev_zero_branch the
pass's last_zero_branch, and its reset slot is armed (R204). -/
def Obligations.ValidatedCodeIsRecorded : Prop :=
  ∀ s : State, s.MasterReady → s.status.finalTimeslot = true → s.status.op = .triplet → s.search.phase = .triplet →
    s.search.result ≠ .error → crc8 ((romBytes s.rom).take 7) = s.rom.extractLsb' 56 8 →
    s.search.devicesFound < s.rmax → s.validRange s.rbuf.toNat (8 * s.rmax.toNat) = true → s.mem.wf = true →
    ∃ t : State, exec (.master false) s = .next t ∧
      (∀ j < 8, t.mem.read (s.rbuf.toNat + 8 * s.search.devicesFound.toNat + j) = s.rom.extractLsb' (8 * j) 8) ∧
      s.SameMemOutside t (s.rbuf.toNat + 8 * s.search.devicesFound.toNat) 8 ∧
      (s.search.singleDevice = true ∨ s.branch.lastZero.toInt < 0 ∨ s.search.devicesFound + 1 = s.rmax →
        t.search.phase = .idle ∧ t.status.waiter = false ∧ t.status.op = .none ∧ t.pgctl.run = false ∧
        t.result.toNat = s.search.devicesFound.toNat + 1) ∧
      (s.search.singleDevice = false → 0 ≤ s.branch.lastZero.toInt → s.search.devicesFound + 1 ≠ s.rmax →
        t.search.devicesFound = s.search.devicesFound + 1 ∧ t.prev = s.rom ∧
        t.search.phase = .reset ∧ t.search.kind = .next ∧ t.status.op = .reset ∧ t.status.waiter = s.status.waiter ∧
        t.branch.prevZero = s.branch.lastZero ∧ t.branch.lastZero = 0xFF ∧ t.rom = 0 ∧
        t.search.singleDevice = true ∧ t.search.result = .success ∧ t.search.rombit = 0 ∧ t.search.bitStep = .slotA ∧
        t.search.bitBuf = 0 ∧ t.status.slavePresent = false ∧ t.status.finalTimeslot = false ∧
        t.pgctl = { s.pgctl with
          run := true, periodSel := true, sampleSel := true, sampleEn := true, nextLow := .resetLow } ∧
        t.pg.slotOpen = false)

/-! ## Registers -/

/-- 30_encoding.md R104, 20_memory.md R84: the fifteen offsets of the register map, and no other access is admitted, be it
narrower, wider, misaligned or at an unlisted offset, or a byte stored to or loaded from an address of the register block
(R89, OWE_BASE to OWE_BASE + 0x3F): it leaves that host stuck and changes nothing else; a stuck host's later actions have no effect; and where no agent can move, no host is blocked and BSM is not stuck, the machine stops
there (log 10). -/
def Obligations.RegisterMapIsExact : Prop :=
  (∀ off : BitVec 6, ∀ size : AccessSize,
    (admittedReg off size).isSome = true ↔ size = .word ∧ off.toNat % 4 = 0 ∧ off.toNat < 0x3C) ∧
  [0x00#6, 0x04, 0x08, 0x0C, 0x10, 0x14, 0x18, 0x1C, 0x20, 0x24, 0x28, 0x2C, 0x30, 0x34, 0x38].map
      (fun off => admittedReg off .word) =
    [some .cmd, some .arg0, some .arg1, some .arg2, some .result, some .status, some .search, some .branch, some .romLo,
     some .romHi, some .prevLo, some .prevHi, some .fault, some .config, some .pgctl] ∧
  (∀ (s : State) (who : HostId) (off : BitVec 6) (size : AccessSize) (v : Word) (rest : List Input),
    admittedReg off size = none → s.CanAct who →
    s.inputs = .host who (.write off size v) :: rest ∨ s.inputs = .host who (.read off size) :: rest →
    ∃ h : StuckAgents, step s = .next { s with inputs := rest, stuck := h } ∧ h.bsm = s.stuck.bsm ∧
      ∀ other : HostId, State.isStuck { s with stuck := h } other = (decide (other = who) || s.isStuck other)) ∧
  (∀ (s : State) (who : HostId) (a : Word) (b : Byte) (rest : List Input),
    s.params.oweBase.toNat ≤ a.toNat → a.toNat ≤ s.params.oweBase.toNat + 0x3F → s.CanAct who →
    s.inputs = .host who (.store a b) :: rest ∨ s.inputs = .host who (.load a) :: rest →
    ∃ h : StuckAgents, step s = .next { s with inputs := rest, stuck := h } ∧ h.bsm = s.stuck.bsm ∧
      ∀ other : HostId, State.isStuck { s with stuck := h } other = (decide (other = who) || s.isStuck other)) ∧
  (∀ (s : State) (who : HostId) (act : HostAction) (rest : List Input),
    s.isStuck who = true → s.inputs = .host who act :: rest → step s = .next { s with inputs := rest }) ∧
  (∀ s : State, s.inputs = [] → s.status.waiter = false → s.stuck.bsm = false →
    s.fault.valid = true ∨ s.pgctl.run = false ∧ s.put = none →
    s.stuck.hosts ≠ [] → step s = .fault .accessNotAdmitted)

/-- 30_encoding.md R105, 10_state.md R40, R59: a CMD write issues the command; an ARGn write stores the value, or
raises Fault(BUSY, 0x10 + n) while waiter = 1; a write to a read-only register has no effect; while a fault is
recorded no write has; and a read returns the current value, with no side effect on OWE. The host whose CMD write it is
becomes the caller where none is blocked (00_scope.md R8, R113; log 30). -/
def Obligations.RegisterWriteSemantics : Prop :=
  ∀ (s : State) (who : HostId) (v : Word),
    (s.fault.valid = false → ∀ i : Instr, decode (.command v) = .ok i →
      s.writeReg who .cmd v = exec i { s with caller := if s.status.waiter then s.caller else who }) ∧
    (s.fault.valid = false → s.status.waiter = false → s.writeReg who .arg0 v = .next { s with arg0 := v } ∧
      s.writeReg who .arg1 v = .next { s with arg1 := v } ∧ s.writeReg who .arg2 v = .next { s with arg2 := v }) ∧
    (s.fault.valid = false → s.status.waiter = true → s.writeReg who .arg0 v = .next (s.raiseFault .busy 0x10) ∧
      s.writeReg who .arg1 v = .next (s.raiseFault .busy 0x11) ∧
      s.writeReg who .arg2 v = .next (s.raiseFault .busy 0x12)) ∧
    (∀ r ∈ [Reg.result, .status, .search, .branch, .romLo, .romHi, .prevLo, .prevHi, .fault, .config, .pgctl],
      s.writeReg who r v = .next s) ∧
    (s.fault.valid = true → ∀ r : Reg, s.writeReg who r v = .next s) ∧
    (∀ r : Reg, s.hostAct who (.write r.offset .word v) = s.writeReg who r v) ∧
    (∀ r : Reg, s.hostAct who (.read r.offset .word) = .next { s with readData := s.readReg r })

/-- 10_state.md R32 to R45, R47 to R57, R59, 60_exceptions.md R270: the word a host reads from each of the fifteen
registers: the position of every field, reserved bits 0, CMD reading 0, and the numbers that code the fields state, op,
next_low, kind, result, bit_step, phase and cause. -/
def Obligations.PackedRegisterWords : Prop :=
  [DriverState.uninit, .stop, .ready, .pullUp].map DriverState.code = [0, 1, 2, 3] ∧
  [BsmOp.none, .reset, .read, .write, .triplet, .pullup].map BsmOp.code = [0, 1, 2, 3, 4, 5] ∧
  [LowPulse.none, .resetLow, .readLow, .w0Low, .w1Low].map LowPulse.code = [0, 1, 2, 3, 4] ∧
  [PassKind.first, .next].map PassKind.code = [0, 1] ∧
  [PassResult.success, .last, .error].map PassResult.code = [0, 1, 2] ∧
  [BitStep.slotA, .slotB, .slotW].map BitStep.code = [0, 1, 2] ∧
  [SearchPhase.idle, .reset, .cmd, .triplet].map SearchPhase.code = [0, 1, 2, 3] ∧
  [FaultCause.none, .reservedOpcode, .badState, .busy, .badCount, .badBuffer, .badConfig, .badMax,
    .spuriousEvent].map FaultCause.code = [0, 1, 2, 3, 4, 5, 6, 7, 8] ∧
  ∀ s : State,
    s.readReg .cmd = 0 ∧ s.readReg .arg0 = s.arg0 ∧ s.readReg .arg1 = s.arg1 ∧ s.readReg .arg2 = s.arg2 ∧
    s.readReg .result = s.result ∧
    (s.readReg .config).extractLsb' 0 13 = s.config ∧ (s.readReg .config).extractLsb' 13 19 = 0 ∧
    (s.readReg .config).getLsbD 12 = s.bound ∧
    (s.readReg .status).extractLsb' 16 16 = s.status.bytes ∧ (s.readReg .status).extractLsb' 12 4 = 0 ∧
    (s.readReg .status).getLsbD 11 = s.status.waiter ∧ (s.readReg .status).extractLsb' 8 3 = s.status.op.code ∧
    (s.readReg .status).getLsbD 7 = s.status.slavePresent ∧ (s.readReg .status).getLsbD 6 = s.status.needPullup ∧
    (s.readReg .status).getLsbD 5 = s.status.finalTimeslot ∧ (s.readReg .status).extractLsb' 2 3 = s.status.bit ∧
    (s.readReg .status).extractLsb' 0 2 = s.status.state.code ∧
    (s.readReg .search).extractLsb' 16 16 = s.search.devicesFound ∧
    (s.readReg .search).extractLsb' 14 2 = s.search.phase.code ∧ (s.readReg .search).extractLsb' 8 6 = s.search.rombit ∧
    (s.readReg .search).extractLsb' 6 2 = s.search.bitBuf ∧ (s.readReg .search).extractLsb' 4 2 = s.search.bitStep.code ∧
    (s.readReg .search).extractLsb' 2 2 = s.search.result.code ∧
    (s.readReg .search).extractLsb' 1 1 = s.search.kind.code ∧ (s.readReg .search).getLsbD 0 = s.search.singleDevice ∧
    (s.readReg .branch).extractLsb' 0 8 = s.branch.lastZero ∧ (s.readReg .branch).extractLsb' 8 8 = s.branch.prevZero ∧
    (s.readReg .branch).extractLsb' 16 16 = 0 ∧
    (s.readReg .fault).getLsbD 0 = s.fault.valid ∧ (s.readReg .fault).extractLsb' 1 3 = 0 ∧
    (s.readReg .fault).extractLsb' 4 4 = s.fault.cause.code ∧ (s.readReg .fault).extractLsb' 8 8 = s.fault.info ∧
    (s.readReg .fault).extractLsb' 16 16 = 0 ∧
    (s.readReg .pgctl).getLsbD 0 = s.pgctl.run ∧ (s.readReg .pgctl).getLsbD 1 = s.pgctl.periodSel ∧
    (s.readReg .pgctl).extractLsb' 2 3 = s.pgctl.nextLow.code ∧ (s.readReg .pgctl).getLsbD 5 = s.pgctl.sampleEn ∧
    (s.readReg .pgctl).getLsbD 6 = s.pgctl.sampleSel ∧ (s.readReg .pgctl).getLsbD 7 = s.pgctl.puAsserted ∧
    (s.readReg .pgctl).extractLsb' 8 24 = 0 ∧
    (s.readReg .romHi ++ s.readReg .romLo : BitVec 64) = s.rom ∧
    (s.readReg .prevHi ++ s.readReg .prevLo : BitVec 64) = s.prev

/-- 20_memory.md R80, R86, R91, 30_encoding.md R125 (STB), R127: a host's byte store writes that byte and changes
nothing else, and a load returns the byte last written; in a buffer OWE owns both are refused (93 U4; log 13), and at
an address that is no memory both stop (log 26). All this outside the register block, where a byte access leaves its host
stuck (R84, RegisterMapIsExact). R86: what OWE owns from the acceptance of READ, WRITE or SEARCH until Resume: [ARG0, ARG0 + ARG1) of the READ or WRITE (its pull-up phase
too), and the 8·rmax bytes at rbuf of the SEARCH; nothing while waiter = 0, and nothing for a RESET. -/
def Obligations.HostAccessesKeepOutOfOwnedBuffers : Prop :=
  (∀ (s : State) (x : Nat),
    (s.status.waiter = false → s.ownsByte x = false) ∧
    (s.status.waiter = true → s.search.phase = .idle → s.status.op = .reset → s.ownsByte x = false) ∧
    (s.status.waiter = true → s.search.phase = .idle →
      s.status.op = .read ∨ s.status.op = .write ∨ s.status.op = .pullup →
      (s.ownsByte x = true ↔ s.arg0.toNat ≤ x ∧ x < s.arg0.toNat + s.arg1.toNat)) ∧
    (s.status.waiter = true → s.search.phase ≠ .idle →
      (s.ownsByte x = true ↔ s.rbuf.toNat ≤ x ∧ x < s.rbuf.toNat + 8 * s.rmax.toNat))) ∧
  (∀ (s t : State) (x : Nat), s.IssueReady → s.search.phase = .idle → s.params.ok = true → t.fault.valid = false →
    (exec .read s = .next t ∨ exec .write s = .next t →
      (t.ownsByte x = true ↔ s.arg0.toNat ≤ x ∧ x < s.arg0.toNat + s.arg1.toNat)) ∧
    (exec .search s = .next t →
      (t.ownsByte x = true ↔ s.arg0.toNat ≤ x ∧ x < s.arg0.toNat + 8 * s.arg1.toNat))) ∧
  ∀ (s : State) (who : HostId) (a : Word) (b : Byte) (rest : List Input),
    s.CanAct who → s.mem.wf = true →
    a.toNat < s.params.oweBase.toNat ∨ s.params.oweBase.toNat + 0x3F < a.toNat →
    (s.inputs = .host who (.store a b) :: rest →
      (s.ownsByte a.toNat = true → step s = .refused .bufferAliased) ∧
      (s.ownsByte a.toNat = false → s.byteAdmitted a.toNat = false → step s = .fault .hostAccessNotAdmitted) ∧
      (s.ownsByte a.toNat = false → s.byteAdmitted a.toNat = true →
        ∃ m : Memory, step s = .next { s with inputs := rest, mem := m } ∧ m.wf = true ∧
          ∀ x : Nat, m.read x = if x = a.toNat then b else s.mem.read x)) ∧
    (s.inputs = .host who (.load a) :: rest →
      (s.ownsByte a.toNat = true → step s = .refused .bufferAliased) ∧
      (s.ownsByte a.toNat = false → s.byteAdmitted a.toNat = false → step s = .fault .hostAccessNotAdmitted) ∧
      (s.ownsByte a.toNat = false → s.byteAdmitted a.toNat = true →
        step s = .next { s with inputs := rest, readData := (s.mem.read a.toNat).setWidth 32 }))

/-- 30_encoding.md R125, R127, R128: the host actions the statements and pseudo-instructions expand to, in order. And
70_reset_and_hazards.md R320: HALT ends its host's program, with success exactly where no fault is recorded, no host
waits, no operation, no search and no slot is in flight, the pull-up is released and PUT is idle; it changes nothing
else; and the actions that a host lists after it have no effect (log 32). -/
def Obligations.StatementsExpandToTheirAccesses : Prop :=
  (∀ (s : State) (who : HostId) (rest : List Input), s.inputs = .host who .halt :: rest → s.CanAct who →
    ∃ e : RunEnd, step s = .next { s with inputs := rest, halts := s.halts ++ [{ host := who, runEnd := e }] } ∧
      (e = .success ↔ s.fault.valid = false ∧ s.status.waiter = false ∧ s.status.op = .none ∧
        s.search.phase = .idle ∧ s.pgctl.run = false ∧ s.pgctl.puAsserted = false ∧ s.put = none) ∧
      (e = .faulted ↔ s.fault.valid = true)) ∧
  (∀ (s : State) (who : HostId) (act : HostAction) (rest : List Input),
    s.hasHalted who = true → s.inputs = .host who act :: rest → step s = .next { s with inputs := rest }) ∧
  ∀ (a n d s r : Word) (b : Byte) (code : BitVec 64),
    Stmt.objinit.actions = [.write 0x00 .word 1] ∧
    (Stmt.start a).actions = [.write 0x04 .word a, .write 0x00 .word 2] ∧
    Stmt.stop.actions = [.write 0x00 .word 3] ∧ Stmt.reset.actions = [.write 0x00 .word 4] ∧
    (Stmt.read a n).actions = [.write 0x04 .word a, .write 0x08 .word n, .write 0x00 .word 5] ∧
    (Stmt.write a n d).actions =
      [.write 0x04 .word a, .write 0x08 .word n, .write 0x0C .word d, .write 0x00 .word 6] ∧
    (Stmt.search a n).actions = [.write 0x04 .word a, .write 0x08 .word n, .write 0x00 .word 7] ∧
    (Stmt.crc8 a n).actions = [.write 0x04 .word a, .write 0x08 .word n, .write 0x00 .word 8] ∧
    (Stmt.stb a b).actions = [.store a b] ∧ Stmt.halt.actions = [.halt] ∧
    (Stmt.ldr .status).actions = [.read 0x14 .word] ∧ (Stmt.ldr .result).actions = [.read 0x10 .word] ∧
    (Stmt.sendb s b d).actions = [.store s b] ++ (Stmt.write s 1 d).actions ∧
    (Stmt.readrom s r).actions = Stmt.reset.actions ++ (Stmt.sendb s 0x33 0).actions ++ (Stmt.read r 8).actions ∧
    (Stmt.skiprom s).actions = Stmt.reset.actions ++ (Stmt.sendb s 0xCC 0).actions ∧
    (Stmt.matchrom s code).actions = Stmt.reset.actions ++
      [.store s 0x55, .store (s + 1) (code.extractLsb' 0 8), .store (s + 2) (code.extractLsb' 8 8),
       .store (s + 3) (code.extractLsb' 16 8), .store (s + 4) (code.extractLsb' 24 8),
       .store (s + 5) (code.extractLsb' 32 8), .store (s + 6) (code.extractLsb' 40 8),
       .store (s + 7) (code.extractLsb' 48 8), .store (s + 8) (code.extractLsb' 56 8)] ++ (Stmt.write s 9 0).actions

/-! ## Reset -/

/-- 70_reset_and_hazards.md R300, R301 and 10_state.md R60: the values the spec gives for power-on reset, in the reset
state and after a power-on reset of a running machine; host memory, the memory map and which hosts are stuck or have
halted are not OWE's and stay (log 22). BSM, and a host that was blocked, have a step again (the model's choice, log 31). -/
def Obligations.PowerOnResetValues : Prop :=
  ∀ (s : State) (rest : List Input), s.inputs = .powerOn :: rest →
    ∃ t : State, step s = .next t ∧ t.inputs = rest ∧ t.mem = s.mem ∧ t.memMap = s.memMap ∧ t.params = s.params ∧
      t.stuck = { s.stuck with bsm := false } ∧ t.halts = s.halts ∧
      (∀ who : HostId, s.isStuck who = false → s.hasHalted who = false → t.CanAct who) ∧
      ∀ u ∈ [t, State.reset],
        u.status.state = .uninit ∧ u.status.op = .none ∧ u.status.waiter = false ∧ u.readReg .fault = 0 ∧
        u.readReg .pgctl = 0 ∧ u.config.getLsbD 12 = false ∧ u.put = none

/-! ## Frames -/

/-- 20_memory.md R97: no command and no PULLUP_END stores to host memory in its own step. -/
def Obligations.CommandsStoreNothing : Prop :=
  ∀ (i : Instr) (s t : State),
    i = .objinit ∨ i = .start ∨ i = .stop ∨ i = .reset ∨ i = .read ∨ i = .write ∨ i = .search ∨ i = .crc8 ∨
      i = .pullupEnd false →
    exec i s = .next t → s.SameMem t

/-- 10_state.md R31, R40, R44, R46: what no instruction writes: the operand registers, the parameters, the memory map,
which hosts are stuck or have halted, the caller, and the model's own inputs, draws and read latch; a stuck BSM stays so, and only MASTER
and SAMPLE can leave it stuck (20_memory.md R87); and CONFIG is written by OBJINIT, START and STOP only ("no rule
changes CONFIG between START and STOP"). -/
def Obligations.InstructionsKeepOperandsAndConfiguration : Prop :=
  ∀ (i : Instr) (s t : State), exec i s = .next t →
    t.arg0 = s.arg0 ∧ t.arg1 = s.arg1 ∧ t.arg2 = s.arg2 ∧ t.params = s.params ∧ t.memMap = s.memMap ∧
    t.inputs = s.inputs ∧ t.draws = s.draws ∧ t.readData = s.readData ∧ t.caller = s.caller ∧
    t.halts = s.halts ∧ t.stuck.hosts = s.stuck.hosts ∧
    (s.stuck.bsm = true → t.stuck.bsm = true) ∧
    (i ≠ .master false → (∀ pin : Bool, i ≠ .sample pin) → t.stuck = s.stuck) ∧
    (i ≠ .objinit → i ≠ .start → i ≠ .stop → t.config = s.config)

/-- The frame of MASTER (41_bit_io.md R158, R161, R165, R166; 42_search_rom.md R201 to R222): the registers no MASTER
response writes; what only a WRITE's slots, a search pass or the final timeslot can change; and memory, which changes
only at the end of a search pass, in the eight bytes at rbuf + 8k. It holds of the faulted machine, of a MASTER that
raises SPURIOUS_EVENT and of one that has no step too. -/
def Obligations.MasterFrame : Prop :=
  ∀ s t : State, exec (.master false) s = .next t → s.mem.wf = true →
    t.acc = s.acc ∧ t.puTime = s.puTime ∧ t.rbuf = s.rbuf ∧ t.rmax = s.rmax ∧
    (s.status.op ≠ .write → t.cursor = s.cursor) ∧
    (s.status.op ≠ .write → s.search.phase ≠ .reset →
      t.wbyte = s.wbyte ∧ t.status.bytes = s.status.bytes ∧ t.status.bit = s.status.bit) ∧
    (s.status.op ≠ .write ∨ s.status.needPullup = false →
      t.status.state = s.status.state ∧ (t.pgctl.puAsserted = true → s.pgctl.puAsserted = true)) ∧
    (s.search.phase = .idle →
      t.status.slavePresent = s.status.slavePresent ∧ t.pgctl.periodSel = s.pgctl.periodSel ∧
      t.pgctl.sampleSel = s.pgctl.sampleSel) ∧
    (s.search.phase = .idle ∨ s.status.finalTimeslot = false →
      t.search = s.search ∧ t.branch = s.branch ∧ t.rom = s.rom ∧ t.prev = s.prev ∧ t.wsrc = s.wsrc) ∧
    (s.status.finalTimeslot = false → t.result = s.result ∧ t.status.waiter = s.status.waiter ∧
      t.status.op = s.status.op) ∧
    (s.search.phase ≠ .triplet ∨ s.status.finalTimeslot = false → s.SameMem t) ∧
    (∀ x : Nat, (∀ j < 8, x ≠ s.addrAdd s.rbuf.toNat (8 * s.search.devicesFound.toNat + j)) →
      t.mem.read x = s.mem.read x)

/-- The frame of SAMPLE where no fault is recorded (41_bit_io.md R159, R162; 42_search_rom.md R212 to R218): the
registers no SAMPLE response writes, and memory, which changes only in the byte at the cursor, at bit 7 of a READ. -/
def Obligations.SampleFrame : Prop :=
  ∀ (pin : Bool) (s t : State), exec (.sample pin) s = .next t → t.fault.valid = false → s.mem.wf = true →
    t.result = s.result ∧ t.fault = s.fault ∧ t.wbyte = s.wbyte ∧ t.wsrc = s.wsrc ∧ t.puTime = s.puTime ∧
    t.rbuf = s.rbuf ∧ t.rmax = s.rmax ∧ t.prev = s.prev ∧ t.put = s.put ∧ t.status.state = s.status.state ∧
    t.status.op = s.status.op ∧ t.status.waiter = s.status.waiter ∧ t.status.needPullup = s.status.needPullup ∧
    t.pgctl.run = s.pgctl.run ∧ t.pgctl.periodSel = s.pgctl.periodSel ∧ t.pgctl.sampleSel = s.pgctl.sampleSel ∧
    t.pgctl.puAsserted = s.pgctl.puAsserted ∧
    (s.status.op ≠ .triplet → t.search = s.search ∧ t.branch = s.branch ∧ t.rom = s.rom ∧
      t.status.finalTimeslot = s.status.finalTimeslot ∧ t.pgctl.nextLow = s.pgctl.nextLow) ∧
    (s.status.op ≠ .read → t.cursor = s.cursor ∧ t.acc = s.acc ∧ t.status.bytes = s.status.bytes ∧
      t.status.bit = s.status.bit ∧ s.SameMem t) ∧
    (s.status.op ≠ .reset → t.status.slavePresent = s.status.slavePresent) ∧
    (s.status.bit ≠ 7 → s.SameMem t) ∧
    (∀ x : Nat, x ≠ s.cursor.toNat → t.mem.read x = s.mem.read x)

/-! ## Invariants -/

/-- The invariant and the buffer discipline hold right after reset, whose unspecified fields hold the values of log 5,
and whose parameters are those of log 8. -/
def Obligations.InvariantHoldsAtReset : Prop := State.reset.Inv ∧ State.reset.BufferOk

/-- 10_state.md R58, 00_scope.md R11: from every state that meets it, whatever arrives, a step keeps the invariant: the
handshake (waiter, run, PULL_UP), a host that waits where BSM is stuck, the lifecycle, the search
phase, each operation's place in its slot sequence, every
field in its range, each stuck or halted host listed once, and the canonical form of host memory. -/
def Obligations.StepKeepsTheInvariant : Prop :=
  ∀ s t : State, s.Inv → step s = .next t → t.Inv

/-- 20_memory.md R87, 60_exceptions.md R274: while the memory map stays, OWE never reaches a byte `Valid` did not
accept: the buffer discipline is kept, BSM does not get stuck, and no step stops on a withdrawn byte. -/
def Obligations.AcceptedBuffersStayReachable : Prop :=
  ∀ s : State, s.Inv → s.BufferOk → s.mapChanges = false →
    step s ≠ .fault .byteWithdrawn ∧ ∀ t : State, step s = .next t → t.BufferOk ∧ t.stuck.bsm = false

/-- 41_bit_io.md R171, 20_memory.md R86, R97: OWE writes host memory only inside the buffer the command in flight owns;
every other byte reads as before, whatever the step takes but a host's own store. A store that the blocked host's wait
holds back is not taken. -/
def Obligations.WritesStayInsideTheOwnedBuffer : Prop :=
  ∀ s t : State, s.Inv → s.BufferOk → s.hostStores = false → step s = .next t →
    ∀ x : Nat, s.ownsByte x = false → t.mem.read x = s.mem.read x

/-! ## Completion of operations -/

/-- 60_exceptions.md R274, 41_bit_io.md R170, R172, 42_search_rom.md R223: while PG and PUT keep their contracts, a host
that is blocked is resumed, without a fault, within the bound of its operation's events, whatever the pins are and
whatever its own next actions, which wait. -/
def Obligations.BlockedHostIsAlwaysResumed : Prop :=
  ∀ s : State, s.Inv → s.BufferOk → s.fault.valid = false → s.status.waiter = true → s.NothingArrives →
    ∃ (k : Nat) (t : State), k ≤ s.eventBound ∧ runSteps k s = .next t ∧ t.status.waiter = false ∧ t.fault.valid = false

/-- 41_bit_io.md R160: a RESET, run through its three events, returns 1 exactly when the presence sample is low, and
leaves slave_present so. -/
def Obligations.ResetReportsPresence : Prop :=
  ∀ (s : State) (pin : Bool), s.Ready0 →
    ∃ t : State, execAll [.reset, .master false, .sample pin, .master false] s = .next t ∧ t.Ready0 ∧
      t.result = (if pin then 0 else 1) ∧ t.status.slavePresent = !pin ∧ t.mem = s.mem

/-- 41_bit_io.md R163, 20_memory.md R81: a READ of n bytes, run through its 16n + 1 events, fills the buffer with the
bytes whose bits are the sampled pins, LSB first, changes no other byte, and returns 0. -/
def Obligations.ReadFillsItsBuffer : Prop :=
  ∀ (s : State) (bytes : List Byte), s.Ready0 → s.params.ok = true → s.mem.wf = true →
    s.arg1.toNat = bytes.length → 1 ≤ bytes.length → bytes.length ≤ s.params.countMax →
    s.validRange s.arg0.toNat bytes.length = true →
    ∃ t : State, execAll (.read :: readEvents bytes) s = .next t ∧ t.Ready0 ∧ t.result = 0 ∧
      (∀ (j : Nat) (hj : j < bytes.length), t.mem.read (s.arg0.toNat + j) = bytes[j]) ∧
      s.SameMemOutside t s.arg0.toNat bytes.length

/-- 41_bit_io.md R168, R170, 20_memory.md R81: a WRITE of n bytes puts 8n + 1 slots on the bus: slot k carries bit k
mod 8 of byte k div 8 ("long low = 0, short low = 1"), the last one is NONE; then either the strong pull-up phase runs
for the duration operand, or the host is resumed with 0. -/
def Obligations.WriteSendsItsBytesLsbFirst : Prop :=
  ∀ s : State, s.Ready0 → s.params.ok = true →
    1 ≤ s.arg1.toNat → s.arg1.toNat ≤ s.params.countMax → s.validRange s.arg0.toNat s.arg1.toNat = true →
    ∃ t u : State, exec .write s = .next t ∧
      slotTrace (8 * s.arg1.toNat + 1) t =
        some (((List.range s.arg1.toNat).flatMap (fun j => byteBits (s.mem.read (s.arg0.toNat + j)))).map
          (fun bit => if bit then LowPulse.w1Low else LowPulse.w0Low) ++ [LowPulse.none]) ∧
      execAll (List.replicate (8 * s.arg1.toNat + 1) (.master false)) t = .next u ∧ u.mem = s.mem ∧
      (t.status.needPullup = true → u.status.op = .pullup ∧ u.status.state = .pullUp ∧ u.put = some t.puTime ∧
        u.pgctl.puAsserted = true ∧ u.status.waiter = true) ∧
      (t.status.needPullup = false → u.Ready0 ∧ u.result = 0)

/-- 42_search_rom.md R200, R213, R219 to R222: on a bus where one device answers with a code that passes the CRC
check, SEARCH returns 1 with that code, byte 0 first, in the result buffer, and changes no other byte. The pins of
slots A and B are the device's bit and its complement; the pins of slot W are arbitrary. -/
def Obligations.SingleDeviceIsFound : Prop :=
  ∀ (s : State) (rom : BitVec 64) (w : Nat → Bool), s.Ready0 → s.params.ok = true → s.mem.wf = true →
    1 ≤ s.arg1.toNat → s.arg1.toNat ≤ s.params.devMax → s.validRange s.arg0.toNat (8 * s.arg1.toNat) = true →
    crc8 ((romBytes rom).take 7) = rom.extractLsb' 56 8 →
    ∃ t : State, execAll (.search :: singleDeviceEvents rom w) s = .next t ∧ t.Ready0 ∧ t.result = 1 ∧
      (∀ j < 8, t.mem.read (s.arg0.toNat + j) = rom.extractLsb' (8 * j) 8) ∧
      s.SameMemOutside t s.arg0.toNat 8
end

