-- ==== Sys2Proof/Laws/Memory.lean ====
section
/-! SUPPORT. The laws of host memory: a read after a write, the canonical form, and what the checked accesses can do. -/

namespace Sys2Proof.Machine

theorem Memory.read_cons (a x : Nat) (v : Byte) (rest : Memory) (h : a = x → rest.read x = Memory.unwritten) :
    (Memory.cons a v rest).read x = if a = x then v else rest.read x := by
  unfold Memory.cons
  by_cases hv : v = Memory.unwritten
  · by_cases ha : a = x
    · simp [hv, ha, h ha]
    · simp [hv, ha]
  · simp [hv, Memory.read]

theorem Memory.read_below (m : Memory) (lo x : Nat) (h : m.wfAbove lo = true) (hx : x ≤ lo) :
    m.read x = Memory.unwritten := by
  induction m generalizing lo with
  | nil => rfl
  | cons c rest ih =>
    obtain ⟨k, b⟩ := c
    simp only [Memory.wfAbove, Bool.and_eq_true, decide_eq_true_eq] at h
    have hk : k ≠ x := by omega
    simp [Memory.read, hk, ih k h.2 (by omega)]

theorem Memory.wfAbove_mono (m : Memory) (lo lo' : Nat) (h : m.wfAbove lo = true) (hl : lo' ≤ lo) :
    m.wfAbove lo' = true := by
  cases m with
  | nil => rfl
  | cons c rest =>
    obtain ⟨k, b⟩ := c
    simp only [Memory.wfAbove, Bool.and_eq_true, decide_eq_true_eq] at h ⊢
    exact ⟨⟨by omega, h.1.2⟩, h.2⟩

theorem Memory.cons_wfAbove (a lo : Nat) (v : Byte) (rest : Memory) (ha : lo < a) (h : rest.wfAbove a = true) :
    (Memory.cons a v rest).wfAbove lo = true := by
  unfold Memory.cons
  by_cases hv : v = Memory.unwritten
  · simpa [hv] using Memory.wfAbove_mono rest a lo h (by omega)
  · simp [hv, Memory.wfAbove, ha, h]

theorem Memory.write_wfAbove (m : Memory) (lo a : Nat) (v : Byte) (h : m.wfAbove lo = true) (ha : lo < a) :
    (m.write a v).wfAbove lo = true := by
  induction m generalizing lo with
  | nil => exact Memory.cons_wfAbove a lo v [] ha rfl
  | cons c rest ih =>
    obtain ⟨k, b⟩ := c
    simp only [Memory.wfAbove, Bool.and_eq_true, decide_eq_true_eq] at h
    unfold Memory.write
    split_ifs with h1 h2
    · exact Memory.cons_wfAbove a lo v _ ha (by simp [Memory.wfAbove, h1, h.1.2, h.2])
    · subst h2
      exact Memory.cons_wfAbove a lo v _ ha h.2
    · simp [Memory.wfAbove, h.1, ih k h.2 (by omega)]

theorem Memory.wf_of_wfAbove (m : Memory) (lo : Nat) (h : m.wfAbove lo = true) : m.wf = true := by
  cases m with
  | nil => rfl
  | cons c rest =>
    obtain ⟨k, b⟩ := c
    simp only [Memory.wfAbove, Memory.wf, Bool.and_eq_true, decide_eq_true_eq] at h ⊢
    exact ⟨h.1.2, h.2⟩

theorem Memory.cons_wf (a : Nat) (v : Byte) (rest : Memory) (h : rest.wfAbove a = true) :
    (Memory.cons a v rest).wf = true := by
  unfold Memory.cons
  by_cases hv : v = Memory.unwritten
  · simpa [hv] using Memory.wf_of_wfAbove rest a h
  · simp [hv, Memory.wf, h]

/-- Every write keeps the canonical form. -/
theorem Memory.write_wf (m : Memory) (a : Nat) (v : Byte) (h : m.wf = true) : (m.write a v).wf = true := by
  cases m with
  | nil => exact Memory.cons_wf a v [] rfl
  | cons c rest =>
    obtain ⟨k, b⟩ := c
    simp only [Memory.wf, Bool.and_eq_true, decide_eq_true_eq] at h
    unfold Memory.write
    split_ifs with h1 h2
    · exact Memory.cons_wf a v _ (by simp [Memory.wfAbove, h1, h.1, h.2])
    · subst h2
      exact Memory.cons_wf a v _ h.2
    · simp [Memory.wf, h.1, Memory.write_wfAbove rest k a v h.2 (by omega)]

theorem Memory.read_write_above (m : Memory) (lo a x : Nat) (v : Byte) (h : m.wfAbove lo = true) :
    (m.write a v).read x = if a = x then v else m.read x := by
  induction m generalizing lo with
  | nil => exact Memory.read_cons a x v [] (fun _ => rfl)
  | cons c rest ih =>
    obtain ⟨k, b⟩ := c
    simp only [Memory.wfAbove, Bool.and_eq_true, decide_eq_true_eq] at h
    unfold Memory.write
    split_ifs with h1 h2 h3 h4 h5
    · rw [Memory.read_cons _ _ _ _ (fun hx => ?_)]
      · simp [h2]
      · exact Memory.read_below _ a x (by simp [Memory.wfAbove, h1, h.1.2, h.2]) (by omega)
    · rw [Memory.read_cons _ _ _ _ (fun hx => absurd hx h2)]
      simp [h2]
    · subst h3
      rw [Memory.read_cons _ _ _ _ (fun hx => Memory.read_below rest a x h.2 (by omega))]
      simp [h4]
    · subst h3
      rw [Memory.read_cons _ _ _ _ (fun hx => absurd hx h4)]
      simp [h4, Memory.read]
    · subst h5
      have hk : ¬ k = a := fun e => h3 e.symm
      simp [Memory.read, hk, ih k h.2]
    · simp only [Memory.read]
      split_ifs
      · rfl
      · rw [ih k h.2]
        simp [h5]

/-- A read after a write: the byte written at its address, the old byte everywhere else (20_memory.md R91). -/
theorem Memory.read_write (m : Memory) (a x : Nat) (v : Byte) (h : m.wf = true) :
    (m.write a v).read x = if a = x then v else m.read x := by
  cases m with
  | nil => exact Memory.read_cons a x v [] (fun _ => rfl)
  | cons c rest =>
    obtain ⟨k, b⟩ := c
    simp only [Memory.wf, Bool.and_eq_true, decide_eq_true_eq] at h
    unfold Memory.write
    split_ifs with h1 h2 h3 h4 h5
    · rw [Memory.read_cons _ _ _ _ (fun hx => ?_)]
      · simp [h2]
      · exact Memory.read_below _ a x (by simp [Memory.wfAbove, h1, h.1, h.2]) (by omega)
    · rw [Memory.read_cons _ _ _ _ (fun hx => absurd hx h2)]
      simp [h2]
    · subst h3
      rw [Memory.read_cons _ _ _ _ (fun hx => Memory.read_below rest a x h.2 (by omega))]
      simp [h4]
    · subst h3
      rw [Memory.read_cons _ _ _ _ (fun hx => absurd hx h4)]
      simp [h4, Memory.read]
    · subst h5
      have hk : ¬ k = a := fun e => h3 e.symm
      simp [Memory.read, hk, Memory.read_write_above rest k _ _ v h.2]
    · simp only [Memory.read]
      split_ifs
      · rfl
      · rw [Memory.read_write_above rest k _ _ v h.2]
        simp [h5]

/-! ### The checked accesses -/

/-- What a checked write can do: the byte was admitted, and only memory changes. -/
theorem State.memWrite_eq_some (s t : State) (a : Nat) (v : Byte) :
    s.memWrite a v = some t ↔ s.byteAdmitted a = true ∧ t = { s with mem := s.mem.write a v } := by
  unfold State.memWrite
  split_ifs with h <;> simp [h, eq_comm]

/-- What a checked read can do: the byte was admitted, and it is the byte in memory. -/
theorem State.memRead_eq_some (s : State) (a : Nat) (b : Byte) :
    s.memRead a = some b ↔ s.byteAdmitted a = true ∧ b = s.mem.read a := by
  unfold State.memRead
  split_ifs with h <;> simp [h, eq_comm]

/-- What `Valid(a, len)` says (00_scope.md R6, 20_memory.md R87). -/
theorem State.validRange_iff (s : State) (a len : Nat) :
    s.validRange a len = true ↔
      a ≠ 0 ∧ a + len ≤ 2 ^ s.params.addrW ∧ ∀ k < len, s.byteAdmitted (a + k) = true := by
  simp [State.validRange, and_assoc]

/-- One region that holds the range is enough for `Valid`. -/
theorem State.validRange_of_region (s : State) (a len : Nat) (r : Region) (hr : r ∈ s.memMap)
    (hc : r.covers a len = true) (ha : a ≠ 0) (hw : a + len ≤ 2 ^ s.params.addrW) : s.validRange a len = true := by
  rw [State.validRange_iff]
  refine ⟨ha, hw, fun k hk => ?_⟩
  simp only [State.byteAdmitted, Region.covers, Bool.and_eq_true, decide_eq_true_eq, List.any_eq_true] at hc ⊢
  exact ⟨by omega, r, hr, by omega, by omega⟩

/-- `Valid(a, len)` admits every byte of the range (20_memory.md R87). -/
theorem State.byteAdmitted_of_validRange (s : State) (a len k : Nat) (h : s.validRange a len = true) (hk : k < len) :
    s.byteAdmitted (a + k) = true :=
  ((s.validRange_iff a len).1 h).2.2 k hk

/-- A part of a valid range that does not start at the null address is valid. -/
theorem State.validRange_part (s : State) (a len k m : Nat) (h : s.validRange a len = true) (hm : k + m ≤ len) :
    s.validRange (a + k) m = true := by
  rw [State.validRange_iff] at h ⊢
  obtain ⟨h1, h2, h3⟩ := h
  refine ⟨by omega, by omega, fun j hj => ?_⟩
  rw [Nat.add_assoc]
  exact h3 (k + j) (by omega)

/-- A valid range has no null start and does not wrap (20_memory.md R87). -/
theorem State.validRange_bounds (s : State) (a len : Nat) (h : s.validRange a len = true) :
    a ≠ 0 ∧ a + len ≤ 2 ^ s.params.addrW :=
  let ⟨h1, h2, _⟩ := (s.validRange_iff a len).1 h
  ⟨h1, h2⟩

/-- Where no wrap happens, address arithmetic is exact (00_scope.md R12). -/
theorem State.addrAdd_exact (s : State) (a k : Nat) (h : a + k < 2 ^ s.params.addrW) : s.addrAdd a k = a + k :=
  Nat.mod_eq_of_lt h

/-- The bytes of a valid range, in order (40_crc8.md R141). -/
theorem State.readBytes_of_validRange (s : State) (a len : Nat) (h : s.validRange a len = true) :
    s.readBytes a len = some ((List.range len).map (fun j => s.mem.read (a + j))) := by
  induction len generalizing a with
  | zero => rfl
  | succ n ih =>
    have hb := State.byteAdmitted_of_validRange s a (n + 1) 0 h (by omega)
    have hr : s.memRead a = some (s.mem.read a) := by
      rw [State.memRead_eq_some]
      exact ⟨by simpa using hb, rfl⟩
    have hlt := (State.validRange_bounds s a (n + 1) h).2
    have hrest : s.readBytes (s.addrAdd a 1) n = some ((List.range n).map (fun j => s.mem.read (a + (j + 1)))) := by
      cases n with
      | zero => rfl
      | succ m =>
        rw [State.addrAdd_exact s a 1 (by omega), ih (a + 1) (State.validRange_part s a _ 1 _ h (by omega))]
        congr 1
        exact List.map_congr_left (fun j _ => by rw [show a + 1 + j = a + (j + 1) by omega])
    rw [State.readBytes, hr, hrest]
    simp [List.range_succ_eq_map, List.map_map, Function.comp_def]

end Sys2Proof.Machine
end

