-- ==== Sys2Proof/Laws/State.lean ====
section
/-! SUPPORT. What each shared update leaves in each field of State: one lemma per field per update, each true by rfl. -/

namespace Sys2Proof.Machine

/-! ### stopPg (41_bit_io.md R157) -/

section
variable (s : State)

@[simp] theorem State.stopPg_params : (s.stopPg).params = s.params := rfl
@[simp] theorem State.stopPg_status : (s.stopPg).status = s.status := rfl
@[simp] theorem State.stopPg_search : (s.stopPg).search = s.search := rfl
@[simp] theorem State.stopPg_branch : (s.stopPg).branch = s.branch := rfl
@[simp] theorem State.stopPg_rom : (s.stopPg).rom = s.rom := rfl
@[simp] theorem State.stopPg_prev : (s.stopPg).prev = s.prev := rfl
@[simp] theorem State.stopPg_result : (s.stopPg).result = s.result := rfl
@[simp] theorem State.stopPg_fault : (s.stopPg).fault = s.fault := rfl
@[simp] theorem State.stopPg_config : (s.stopPg).config = s.config := rfl
@[simp] theorem State.stopPg_pgctl : (s.stopPg).pgctl = { s.pgctl with run := false, sampleEn := false, nextLow := .none } := rfl
@[simp] theorem State.stopPg_arg0 : (s.stopPg).arg0 = s.arg0 := rfl
@[simp] theorem State.stopPg_arg1 : (s.stopPg).arg1 = s.arg1 := rfl
@[simp] theorem State.stopPg_arg2 : (s.stopPg).arg2 = s.arg2 := rfl
@[simp] theorem State.stopPg_cursor : (s.stopPg).cursor = s.cursor := rfl
@[simp] theorem State.stopPg_acc : (s.stopPg).acc = s.acc := rfl
@[simp] theorem State.stopPg_wbyte : (s.stopPg).wbyte = s.wbyte := rfl
@[simp] theorem State.stopPg_wsrc : (s.stopPg).wsrc = s.wsrc := rfl
@[simp] theorem State.stopPg_puTime : (s.stopPg).puTime = s.puTime := rfl
@[simp] theorem State.stopPg_rbuf : (s.stopPg).rbuf = s.rbuf := rfl
@[simp] theorem State.stopPg_rmax : (s.stopPg).rmax = s.rmax := rfl
@[simp] theorem State.stopPg_mem : (s.stopPg).mem = s.mem := rfl
@[simp] theorem State.stopPg_memMap : (s.stopPg).memMap = s.memMap := rfl
@[simp] theorem State.stopPg_pg : (s.stopPg).pg = { s.pg with slotOpen := false } := rfl
@[simp] theorem State.stopPg_put : (s.stopPg).put = s.put := rfl
@[simp] theorem State.stopPg_inputs : (s.stopPg).inputs = s.inputs := rfl
@[simp] theorem State.stopPg_draws : (s.stopPg).draws = s.draws := rfl
@[simp] theorem State.stopPg_readData : (s.stopPg).readData = s.readData := rfl
@[simp] theorem State.stopPg_stuck : (s.stopPg).stuck = s.stuck := rfl
@[simp] theorem State.stopPg_caller : (s.stopPg).caller = s.caller := rfl
@[simp] theorem State.stopPg_halts : (s.stopPg).halts = s.halts := rfl

end

/-! ### raiseFault (60_exceptions.md R271) -/

section
variable (s : State) (c : FaultCause) (i : Byte)

@[simp] theorem State.raiseFault_params : (s.raiseFault c i).params = s.params := rfl
@[simp] theorem State.raiseFault_status : (s.raiseFault c i).status = s.status := rfl
@[simp] theorem State.raiseFault_search : (s.raiseFault c i).search = s.search := rfl
@[simp] theorem State.raiseFault_branch : (s.raiseFault c i).branch = s.branch := rfl
@[simp] theorem State.raiseFault_rom : (s.raiseFault c i).rom = s.rom := rfl
@[simp] theorem State.raiseFault_prev : (s.raiseFault c i).prev = s.prev := rfl
@[simp] theorem State.raiseFault_result : (s.raiseFault c i).result = s.result := rfl
@[simp] theorem State.raiseFault_fault : (s.raiseFault c i).fault = { valid := true, cause := c, info := i } := rfl
@[simp] theorem State.raiseFault_config : (s.raiseFault c i).config = s.config := rfl
@[simp] theorem State.raiseFault_pgctl : (s.raiseFault c i).pgctl = { s.pgctl with run := false, sampleEn := false, nextLow := .none, puAsserted := false } := rfl
@[simp] theorem State.raiseFault_arg0 : (s.raiseFault c i).arg0 = s.arg0 := rfl
@[simp] theorem State.raiseFault_arg1 : (s.raiseFault c i).arg1 = s.arg1 := rfl
@[simp] theorem State.raiseFault_arg2 : (s.raiseFault c i).arg2 = s.arg2 := rfl
@[simp] theorem State.raiseFault_cursor : (s.raiseFault c i).cursor = s.cursor := rfl
@[simp] theorem State.raiseFault_acc : (s.raiseFault c i).acc = s.acc := rfl
@[simp] theorem State.raiseFault_wbyte : (s.raiseFault c i).wbyte = s.wbyte := rfl
@[simp] theorem State.raiseFault_wsrc : (s.raiseFault c i).wsrc = s.wsrc := rfl
@[simp] theorem State.raiseFault_puTime : (s.raiseFault c i).puTime = s.puTime := rfl
@[simp] theorem State.raiseFault_rbuf : (s.raiseFault c i).rbuf = s.rbuf := rfl
@[simp] theorem State.raiseFault_rmax : (s.raiseFault c i).rmax = s.rmax := rfl
@[simp] theorem State.raiseFault_mem : (s.raiseFault c i).mem = s.mem := rfl
@[simp] theorem State.raiseFault_memMap : (s.raiseFault c i).memMap = s.memMap := rfl
@[simp] theorem State.raiseFault_pg : (s.raiseFault c i).pg = { s.pg with slotOpen := false } := rfl
@[simp] theorem State.raiseFault_put : (s.raiseFault c i).put = none := rfl
@[simp] theorem State.raiseFault_inputs : (s.raiseFault c i).inputs = s.inputs := rfl
@[simp] theorem State.raiseFault_draws : (s.raiseFault c i).draws = s.draws := rfl
@[simp] theorem State.raiseFault_readData : (s.raiseFault c i).readData = s.readData := rfl
@[simp] theorem State.raiseFault_stuck : (s.raiseFault c i).stuck = s.stuck := rfl
@[simp] theorem State.raiseFault_caller : (s.raiseFault c i).caller = s.caller := rfl
@[simp] theorem State.raiseFault_halts : (s.raiseFault c i).halts = s.halts := rfl

end

/-! ### resume (00_scope.md R14) -/

section
variable (s : State) (v : Word)

@[simp] theorem State.resume_params : (s.resume v).params = s.params := rfl
@[simp] theorem State.resume_status : (s.resume v).status = { s.status with waiter := false } := rfl
@[simp] theorem State.resume_search : (s.resume v).search = s.search := rfl
@[simp] theorem State.resume_branch : (s.resume v).branch = s.branch := rfl
@[simp] theorem State.resume_rom : (s.resume v).rom = s.rom := rfl
@[simp] theorem State.resume_prev : (s.resume v).prev = s.prev := rfl
@[simp] theorem State.resume_result : (s.resume v).result = v := rfl
@[simp] theorem State.resume_fault : (s.resume v).fault = s.fault := rfl
@[simp] theorem State.resume_config : (s.resume v).config = s.config := rfl
@[simp] theorem State.resume_pgctl : (s.resume v).pgctl = s.pgctl := rfl
@[simp] theorem State.resume_arg0 : (s.resume v).arg0 = s.arg0 := rfl
@[simp] theorem State.resume_arg1 : (s.resume v).arg1 = s.arg1 := rfl
@[simp] theorem State.resume_arg2 : (s.resume v).arg2 = s.arg2 := rfl
@[simp] theorem State.resume_cursor : (s.resume v).cursor = s.cursor := rfl
@[simp] theorem State.resume_acc : (s.resume v).acc = s.acc := rfl
@[simp] theorem State.resume_wbyte : (s.resume v).wbyte = s.wbyte := rfl
@[simp] theorem State.resume_wsrc : (s.resume v).wsrc = s.wsrc := rfl
@[simp] theorem State.resume_puTime : (s.resume v).puTime = s.puTime := rfl
@[simp] theorem State.resume_rbuf : (s.resume v).rbuf = s.rbuf := rfl
@[simp] theorem State.resume_rmax : (s.resume v).rmax = s.rmax := rfl
@[simp] theorem State.resume_mem : (s.resume v).mem = s.mem := rfl
@[simp] theorem State.resume_memMap : (s.resume v).memMap = s.memMap := rfl
@[simp] theorem State.resume_pg : (s.resume v).pg = s.pg := rfl
@[simp] theorem State.resume_put : (s.resume v).put = s.put := rfl
@[simp] theorem State.resume_inputs : (s.resume v).inputs = s.inputs := rfl
@[simp] theorem State.resume_draws : (s.resume v).draws = s.draws := rfl
@[simp] theorem State.resume_readData : (s.resume v).readData = s.readData := rfl
@[simp] theorem State.resume_stuck : (s.resume v).stuck = s.stuck := rfl
@[simp] theorem State.resume_caller : (s.resume v).caller = s.caller := rfl
@[simp] theorem State.resume_halts : (s.resume v).halts = s.halts := rfl

end

/-! ### arm (41_bit_io.md R156) -/

section
variable (s : State) (k : BsmOp) (p ss se : Bool) (low : LowPulse)

@[simp] theorem State.arm_params : (s.arm k p ss se low).params = s.params := rfl
@[simp] theorem State.arm_status : (s.arm k p ss se low).status = { s.status with op := k, finalTimeslot := false } := rfl
@[simp] theorem State.arm_search : (s.arm k p ss se low).search = s.search := rfl
@[simp] theorem State.arm_branch : (s.arm k p ss se low).branch = s.branch := rfl
@[simp] theorem State.arm_rom : (s.arm k p ss se low).rom = s.rom := rfl
@[simp] theorem State.arm_prev : (s.arm k p ss se low).prev = s.prev := rfl
@[simp] theorem State.arm_result : (s.arm k p ss se low).result = s.result := rfl
@[simp] theorem State.arm_fault : (s.arm k p ss se low).fault = s.fault := rfl
@[simp] theorem State.arm_config : (s.arm k p ss se low).config = s.config := rfl
@[simp] theorem State.arm_pgctl : (s.arm k p ss se low).pgctl = { s.pgctl with periodSel := p, sampleSel := ss, sampleEn := se, nextLow := low, run := true } := rfl
@[simp] theorem State.arm_arg0 : (s.arm k p ss se low).arg0 = s.arg0 := rfl
@[simp] theorem State.arm_arg1 : (s.arm k p ss se low).arg1 = s.arg1 := rfl
@[simp] theorem State.arm_arg2 : (s.arm k p ss se low).arg2 = s.arg2 := rfl
@[simp] theorem State.arm_cursor : (s.arm k p ss se low).cursor = s.cursor := rfl
@[simp] theorem State.arm_acc : (s.arm k p ss se low).acc = s.acc := rfl
@[simp] theorem State.arm_wbyte : (s.arm k p ss se low).wbyte = s.wbyte := rfl
@[simp] theorem State.arm_wsrc : (s.arm k p ss se low).wsrc = s.wsrc := rfl
@[simp] theorem State.arm_puTime : (s.arm k p ss se low).puTime = s.puTime := rfl
@[simp] theorem State.arm_rbuf : (s.arm k p ss se low).rbuf = s.rbuf := rfl
@[simp] theorem State.arm_rmax : (s.arm k p ss se low).rmax = s.rmax := rfl
@[simp] theorem State.arm_mem : (s.arm k p ss se low).mem = s.mem := rfl
@[simp] theorem State.arm_memMap : (s.arm k p ss se low).memMap = s.memMap := rfl
@[simp] theorem State.arm_pg : (s.arm k p ss se low).pg = { s.pg with slotOpen := false } := rfl
@[simp] theorem State.arm_put : (s.arm k p ss se low).put = s.put := rfl
@[simp] theorem State.arm_inputs : (s.arm k p ss se low).inputs = s.inputs := rfl
@[simp] theorem State.arm_draws : (s.arm k p ss se low).draws = s.draws := rfl
@[simp] theorem State.arm_readData : (s.arm k p ss se low).readData = s.readData := rfl
@[simp] theorem State.arm_stuck : (s.arm k p ss se low).stuck = s.stuck := rfl
@[simp] theorem State.arm_caller : (s.arm k p ss se low).caller = s.caller := rfl
@[simp] theorem State.arm_halts : (s.arm k p ss se low).halts = s.halts := rfl

end

/-! ### latchSlot (41_bit_io.md R150) -/

section
variable (s : State)

@[simp] theorem State.latchSlot_params : (s.latchSlot).params = s.params := rfl
@[simp] theorem State.latchSlot_status : (s.latchSlot).status = s.status := rfl
@[simp] theorem State.latchSlot_search : (s.latchSlot).search = s.search := rfl
@[simp] theorem State.latchSlot_branch : (s.latchSlot).branch = s.branch := rfl
@[simp] theorem State.latchSlot_rom : (s.latchSlot).rom = s.rom := rfl
@[simp] theorem State.latchSlot_prev : (s.latchSlot).prev = s.prev := rfl
@[simp] theorem State.latchSlot_result : (s.latchSlot).result = s.result := rfl
@[simp] theorem State.latchSlot_fault : (s.latchSlot).fault = s.fault := rfl
@[simp] theorem State.latchSlot_config : (s.latchSlot).config = s.config := rfl
@[simp] theorem State.latchSlot_pgctl : (s.latchSlot).pgctl = s.pgctl := rfl
@[simp] theorem State.latchSlot_arg0 : (s.latchSlot).arg0 = s.arg0 := rfl
@[simp] theorem State.latchSlot_arg1 : (s.latchSlot).arg1 = s.arg1 := rfl
@[simp] theorem State.latchSlot_arg2 : (s.latchSlot).arg2 = s.arg2 := rfl
@[simp] theorem State.latchSlot_cursor : (s.latchSlot).cursor = s.cursor := rfl
@[simp] theorem State.latchSlot_acc : (s.latchSlot).acc = s.acc := rfl
@[simp] theorem State.latchSlot_wbyte : (s.latchSlot).wbyte = s.wbyte := rfl
@[simp] theorem State.latchSlot_wsrc : (s.latchSlot).wsrc = s.wsrc := rfl
@[simp] theorem State.latchSlot_puTime : (s.latchSlot).puTime = s.puTime := rfl
@[simp] theorem State.latchSlot_rbuf : (s.latchSlot).rbuf = s.rbuf := rfl
@[simp] theorem State.latchSlot_rmax : (s.latchSlot).rmax = s.rmax := rfl
@[simp] theorem State.latchSlot_mem : (s.latchSlot).mem = s.mem := rfl
@[simp] theorem State.latchSlot_memMap : (s.latchSlot).memMap = s.memMap := rfl
@[simp] theorem State.latchSlot_pg : (s.latchSlot).pg = { slotOpen := true, slotLow := s.pgctl.nextLow, slotPeriod := s.pgctl.periodSel } := rfl
@[simp] theorem State.latchSlot_put : (s.latchSlot).put = s.put := rfl
@[simp] theorem State.latchSlot_inputs : (s.latchSlot).inputs = s.inputs := rfl
@[simp] theorem State.latchSlot_draws : (s.latchSlot).draws = s.draws := rfl
@[simp] theorem State.latchSlot_readData : (s.latchSlot).readData = s.readData := rfl
@[simp] theorem State.latchSlot_stuck : (s.latchSlot).stuck = s.stuck := rfl
@[simp] theorem State.latchSlot_caller : (s.latchSlot).caller = s.caller := rfl
@[simp] theorem State.latchSlot_halts : (s.latchSlot).halts = s.halts := rfl

end

/-! ### closeSlot (41_bit_io.md R152) -/

section
variable (s : State)

@[simp] theorem State.closeSlot_params : (s.closeSlot).params = s.params := rfl
@[simp] theorem State.closeSlot_status : (s.closeSlot).status = s.status := rfl
@[simp] theorem State.closeSlot_search : (s.closeSlot).search = s.search := rfl
@[simp] theorem State.closeSlot_branch : (s.closeSlot).branch = s.branch := rfl
@[simp] theorem State.closeSlot_rom : (s.closeSlot).rom = s.rom := rfl
@[simp] theorem State.closeSlot_prev : (s.closeSlot).prev = s.prev := rfl
@[simp] theorem State.closeSlot_result : (s.closeSlot).result = s.result := rfl
@[simp] theorem State.closeSlot_fault : (s.closeSlot).fault = s.fault := rfl
@[simp] theorem State.closeSlot_config : (s.closeSlot).config = s.config := rfl
@[simp] theorem State.closeSlot_pgctl : (s.closeSlot).pgctl = s.pgctl := rfl
@[simp] theorem State.closeSlot_arg0 : (s.closeSlot).arg0 = s.arg0 := rfl
@[simp] theorem State.closeSlot_arg1 : (s.closeSlot).arg1 = s.arg1 := rfl
@[simp] theorem State.closeSlot_arg2 : (s.closeSlot).arg2 = s.arg2 := rfl
@[simp] theorem State.closeSlot_cursor : (s.closeSlot).cursor = s.cursor := rfl
@[simp] theorem State.closeSlot_acc : (s.closeSlot).acc = s.acc := rfl
@[simp] theorem State.closeSlot_wbyte : (s.closeSlot).wbyte = s.wbyte := rfl
@[simp] theorem State.closeSlot_wsrc : (s.closeSlot).wsrc = s.wsrc := rfl
@[simp] theorem State.closeSlot_puTime : (s.closeSlot).puTime = s.puTime := rfl
@[simp] theorem State.closeSlot_rbuf : (s.closeSlot).rbuf = s.rbuf := rfl
@[simp] theorem State.closeSlot_rmax : (s.closeSlot).rmax = s.rmax := rfl
@[simp] theorem State.closeSlot_mem : (s.closeSlot).mem = s.mem := rfl
@[simp] theorem State.closeSlot_memMap : (s.closeSlot).memMap = s.memMap := rfl
@[simp] theorem State.closeSlot_pg : (s.closeSlot).pg = { s.pg with slotOpen := false } := rfl
@[simp] theorem State.closeSlot_put : (s.closeSlot).put = s.put := rfl
@[simp] theorem State.closeSlot_inputs : (s.closeSlot).inputs = s.inputs := rfl
@[simp] theorem State.closeSlot_draws : (s.closeSlot).draws = s.draws := rfl
@[simp] theorem State.closeSlot_readData : (s.closeSlot).readData = s.readData := rfl
@[simp] theorem State.closeSlot_stuck : (s.closeSlot).stuck = s.stuck := rfl
@[simp] theorem State.closeSlot_caller : (s.closeSlot).caller = s.caller := rfl
@[simp] theorem State.closeSlot_halts : (s.closeSlot).halts = s.halts := rfl

end

/-! ### setNextLow (00_scope.md R14) -/

section
variable (s : State) (k : LowPulse)

@[simp] theorem State.setNextLow_params : (s.setNextLow k).params = s.params := rfl
@[simp] theorem State.setNextLow_status : (s.setNextLow k).status = s.status := rfl
@[simp] theorem State.setNextLow_search : (s.setNextLow k).search = s.search := rfl
@[simp] theorem State.setNextLow_branch : (s.setNextLow k).branch = s.branch := rfl
@[simp] theorem State.setNextLow_rom : (s.setNextLow k).rom = s.rom := rfl
@[simp] theorem State.setNextLow_prev : (s.setNextLow k).prev = s.prev := rfl
@[simp] theorem State.setNextLow_result : (s.setNextLow k).result = s.result := rfl
@[simp] theorem State.setNextLow_fault : (s.setNextLow k).fault = s.fault := rfl
@[simp] theorem State.setNextLow_config : (s.setNextLow k).config = s.config := rfl
@[simp] theorem State.setNextLow_pgctl : (s.setNextLow k).pgctl = { s.pgctl with nextLow := k } := rfl
@[simp] theorem State.setNextLow_arg0 : (s.setNextLow k).arg0 = s.arg0 := rfl
@[simp] theorem State.setNextLow_arg1 : (s.setNextLow k).arg1 = s.arg1 := rfl
@[simp] theorem State.setNextLow_arg2 : (s.setNextLow k).arg2 = s.arg2 := rfl
@[simp] theorem State.setNextLow_cursor : (s.setNextLow k).cursor = s.cursor := rfl
@[simp] theorem State.setNextLow_acc : (s.setNextLow k).acc = s.acc := rfl
@[simp] theorem State.setNextLow_wbyte : (s.setNextLow k).wbyte = s.wbyte := rfl
@[simp] theorem State.setNextLow_wsrc : (s.setNextLow k).wsrc = s.wsrc := rfl
@[simp] theorem State.setNextLow_puTime : (s.setNextLow k).puTime = s.puTime := rfl
@[simp] theorem State.setNextLow_rbuf : (s.setNextLow k).rbuf = s.rbuf := rfl
@[simp] theorem State.setNextLow_rmax : (s.setNextLow k).rmax = s.rmax := rfl
@[simp] theorem State.setNextLow_mem : (s.setNextLow k).mem = s.mem := rfl
@[simp] theorem State.setNextLow_memMap : (s.setNextLow k).memMap = s.memMap := rfl
@[simp] theorem State.setNextLow_pg : (s.setNextLow k).pg = s.pg := rfl
@[simp] theorem State.setNextLow_put : (s.setNextLow k).put = s.put := rfl
@[simp] theorem State.setNextLow_inputs : (s.setNextLow k).inputs = s.inputs := rfl
@[simp] theorem State.setNextLow_draws : (s.setNextLow k).draws = s.draws := rfl
@[simp] theorem State.setNextLow_readData : (s.setNextLow k).readData = s.readData := rfl
@[simp] theorem State.setNextLow_stuck : (s.setNextLow k).stuck = s.stuck := rfl
@[simp] theorem State.setNextLow_caller : (s.setNextLow k).caller = s.caller := rfl
@[simp] theorem State.setNextLow_halts : (s.setNextLow k).halts = s.halts := rfl

end

/-! ### stopSampling (41_bit_io.md R159) -/

section
variable (s : State)

@[simp] theorem State.stopSampling_params : (s.stopSampling).params = s.params := rfl
@[simp] theorem State.stopSampling_status : (s.stopSampling).status = s.status := rfl
@[simp] theorem State.stopSampling_search : (s.stopSampling).search = s.search := rfl
@[simp] theorem State.stopSampling_branch : (s.stopSampling).branch = s.branch := rfl
@[simp] theorem State.stopSampling_rom : (s.stopSampling).rom = s.rom := rfl
@[simp] theorem State.stopSampling_prev : (s.stopSampling).prev = s.prev := rfl
@[simp] theorem State.stopSampling_result : (s.stopSampling).result = s.result := rfl
@[simp] theorem State.stopSampling_fault : (s.stopSampling).fault = s.fault := rfl
@[simp] theorem State.stopSampling_config : (s.stopSampling).config = s.config := rfl
@[simp] theorem State.stopSampling_pgctl : (s.stopSampling).pgctl = { s.pgctl with sampleEn := false } := rfl
@[simp] theorem State.stopSampling_arg0 : (s.stopSampling).arg0 = s.arg0 := rfl
@[simp] theorem State.stopSampling_arg1 : (s.stopSampling).arg1 = s.arg1 := rfl
@[simp] theorem State.stopSampling_arg2 : (s.stopSampling).arg2 = s.arg2 := rfl
@[simp] theorem State.stopSampling_cursor : (s.stopSampling).cursor = s.cursor := rfl
@[simp] theorem State.stopSampling_acc : (s.stopSampling).acc = s.acc := rfl
@[simp] theorem State.stopSampling_wbyte : (s.stopSampling).wbyte = s.wbyte := rfl
@[simp] theorem State.stopSampling_wsrc : (s.stopSampling).wsrc = s.wsrc := rfl
@[simp] theorem State.stopSampling_puTime : (s.stopSampling).puTime = s.puTime := rfl
@[simp] theorem State.stopSampling_rbuf : (s.stopSampling).rbuf = s.rbuf := rfl
@[simp] theorem State.stopSampling_rmax : (s.stopSampling).rmax = s.rmax := rfl
@[simp] theorem State.stopSampling_mem : (s.stopSampling).mem = s.mem := rfl
@[simp] theorem State.stopSampling_memMap : (s.stopSampling).memMap = s.memMap := rfl
@[simp] theorem State.stopSampling_pg : (s.stopSampling).pg = s.pg := rfl
@[simp] theorem State.stopSampling_put : (s.stopSampling).put = s.put := rfl
@[simp] theorem State.stopSampling_inputs : (s.stopSampling).inputs = s.inputs := rfl
@[simp] theorem State.stopSampling_draws : (s.stopSampling).draws = s.draws := rfl
@[simp] theorem State.stopSampling_readData : (s.stopSampling).readData = s.readData := rfl
@[simp] theorem State.stopSampling_stuck : (s.stopSampling).stuck = s.stuck := rfl
@[simp] theorem State.stopSampling_caller : (s.stopSampling).caller = s.caller := rfl
@[simp] theorem State.stopSampling_halts : (s.stopSampling).halts = s.halts := rfl

end

/-! ### enterFinal (41_bit_io.md R158) -/

section
variable (s : State)

@[simp] theorem State.enterFinal_params : (s.enterFinal).params = s.params := rfl
@[simp] theorem State.enterFinal_status : (s.enterFinal).status = { s.status with finalTimeslot := true } := rfl
@[simp] theorem State.enterFinal_search : (s.enterFinal).search = s.search := rfl
@[simp] theorem State.enterFinal_branch : (s.enterFinal).branch = s.branch := rfl
@[simp] theorem State.enterFinal_rom : (s.enterFinal).rom = s.rom := rfl
@[simp] theorem State.enterFinal_prev : (s.enterFinal).prev = s.prev := rfl
@[simp] theorem State.enterFinal_result : (s.enterFinal).result = s.result := rfl
@[simp] theorem State.enterFinal_fault : (s.enterFinal).fault = s.fault := rfl
@[simp] theorem State.enterFinal_config : (s.enterFinal).config = s.config := rfl
@[simp] theorem State.enterFinal_pgctl : (s.enterFinal).pgctl = { s.pgctl with nextLow := .none } := rfl
@[simp] theorem State.enterFinal_arg0 : (s.enterFinal).arg0 = s.arg0 := rfl
@[simp] theorem State.enterFinal_arg1 : (s.enterFinal).arg1 = s.arg1 := rfl
@[simp] theorem State.enterFinal_arg2 : (s.enterFinal).arg2 = s.arg2 := rfl
@[simp] theorem State.enterFinal_cursor : (s.enterFinal).cursor = s.cursor := rfl
@[simp] theorem State.enterFinal_acc : (s.enterFinal).acc = s.acc := rfl
@[simp] theorem State.enterFinal_wbyte : (s.enterFinal).wbyte = s.wbyte := rfl
@[simp] theorem State.enterFinal_wsrc : (s.enterFinal).wsrc = s.wsrc := rfl
@[simp] theorem State.enterFinal_puTime : (s.enterFinal).puTime = s.puTime := rfl
@[simp] theorem State.enterFinal_rbuf : (s.enterFinal).rbuf = s.rbuf := rfl
@[simp] theorem State.enterFinal_rmax : (s.enterFinal).rmax = s.rmax := rfl
@[simp] theorem State.enterFinal_mem : (s.enterFinal).mem = s.mem := rfl
@[simp] theorem State.enterFinal_memMap : (s.enterFinal).memMap = s.memMap := rfl
@[simp] theorem State.enterFinal_pg : (s.enterFinal).pg = s.pg := rfl
@[simp] theorem State.enterFinal_put : (s.enterFinal).put = s.put := rfl
@[simp] theorem State.enterFinal_inputs : (s.enterFinal).inputs = s.inputs := rfl
@[simp] theorem State.enterFinal_draws : (s.enterFinal).draws = s.draws := rfl
@[simp] theorem State.enterFinal_readData : (s.enterFinal).readData = s.readData := rfl
@[simp] theorem State.enterFinal_stuck : (s.enterFinal).stuck = s.stuck := rfl
@[simp] theorem State.enterFinal_caller : (s.enterFinal).caller = s.caller := rfl
@[simp] theorem State.enterFinal_halts : (s.enterFinal).halts = s.halts := rfl

end

/-! ### block (10_state.md R36) -/

section
variable (s : State)

@[simp] theorem State.block_params : (s.block).params = s.params := rfl
@[simp] theorem State.block_status : (s.block).status = { s.status with waiter := true } := rfl
@[simp] theorem State.block_search : (s.block).search = s.search := rfl
@[simp] theorem State.block_branch : (s.block).branch = s.branch := rfl
@[simp] theorem State.block_rom : (s.block).rom = s.rom := rfl
@[simp] theorem State.block_prev : (s.block).prev = s.prev := rfl
@[simp] theorem State.block_result : (s.block).result = s.result := rfl
@[simp] theorem State.block_fault : (s.block).fault = s.fault := rfl
@[simp] theorem State.block_config : (s.block).config = s.config := rfl
@[simp] theorem State.block_pgctl : (s.block).pgctl = s.pgctl := rfl
@[simp] theorem State.block_arg0 : (s.block).arg0 = s.arg0 := rfl
@[simp] theorem State.block_arg1 : (s.block).arg1 = s.arg1 := rfl
@[simp] theorem State.block_arg2 : (s.block).arg2 = s.arg2 := rfl
@[simp] theorem State.block_cursor : (s.block).cursor = s.cursor := rfl
@[simp] theorem State.block_acc : (s.block).acc = s.acc := rfl
@[simp] theorem State.block_wbyte : (s.block).wbyte = s.wbyte := rfl
@[simp] theorem State.block_wsrc : (s.block).wsrc = s.wsrc := rfl
@[simp] theorem State.block_puTime : (s.block).puTime = s.puTime := rfl
@[simp] theorem State.block_rbuf : (s.block).rbuf = s.rbuf := rfl
@[simp] theorem State.block_rmax : (s.block).rmax = s.rmax := rfl
@[simp] theorem State.block_mem : (s.block).mem = s.mem := rfl
@[simp] theorem State.block_memMap : (s.block).memMap = s.memMap := rfl
@[simp] theorem State.block_pg : (s.block).pg = s.pg := rfl
@[simp] theorem State.block_put : (s.block).put = s.put := rfl
@[simp] theorem State.block_inputs : (s.block).inputs = s.inputs := rfl
@[simp] theorem State.block_draws : (s.block).draws = s.draws := rfl
@[simp] theorem State.block_readData : (s.block).readData = s.readData := rfl
@[simp] theorem State.block_stuck : (s.block).stuck = s.stuck := rfl
@[simp] theorem State.block_caller : (s.block).caller = s.caller := rfl
@[simp] theorem State.block_halts : (s.block).halts = s.halts := rfl

end

/-! ### stickHost (20_memory.md R84) -/

section
variable (s : State) (who : HostId)

@[simp] theorem State.stickHost_params : (s.stickHost who).params = s.params := rfl
@[simp] theorem State.stickHost_status : (s.stickHost who).status = s.status := rfl
@[simp] theorem State.stickHost_search : (s.stickHost who).search = s.search := rfl
@[simp] theorem State.stickHost_branch : (s.stickHost who).branch = s.branch := rfl
@[simp] theorem State.stickHost_rom : (s.stickHost who).rom = s.rom := rfl
@[simp] theorem State.stickHost_prev : (s.stickHost who).prev = s.prev := rfl
@[simp] theorem State.stickHost_result : (s.stickHost who).result = s.result := rfl
@[simp] theorem State.stickHost_fault : (s.stickHost who).fault = s.fault := rfl
@[simp] theorem State.stickHost_config : (s.stickHost who).config = s.config := rfl
@[simp] theorem State.stickHost_pgctl : (s.stickHost who).pgctl = s.pgctl := rfl
@[simp] theorem State.stickHost_arg0 : (s.stickHost who).arg0 = s.arg0 := rfl
@[simp] theorem State.stickHost_arg1 : (s.stickHost who).arg1 = s.arg1 := rfl
@[simp] theorem State.stickHost_arg2 : (s.stickHost who).arg2 = s.arg2 := rfl
@[simp] theorem State.stickHost_cursor : (s.stickHost who).cursor = s.cursor := rfl
@[simp] theorem State.stickHost_acc : (s.stickHost who).acc = s.acc := rfl
@[simp] theorem State.stickHost_wbyte : (s.stickHost who).wbyte = s.wbyte := rfl
@[simp] theorem State.stickHost_wsrc : (s.stickHost who).wsrc = s.wsrc := rfl
@[simp] theorem State.stickHost_puTime : (s.stickHost who).puTime = s.puTime := rfl
@[simp] theorem State.stickHost_rbuf : (s.stickHost who).rbuf = s.rbuf := rfl
@[simp] theorem State.stickHost_rmax : (s.stickHost who).rmax = s.rmax := rfl
@[simp] theorem State.stickHost_mem : (s.stickHost who).mem = s.mem := rfl
@[simp] theorem State.stickHost_memMap : (s.stickHost who).memMap = s.memMap := rfl
@[simp] theorem State.stickHost_pg : (s.stickHost who).pg = s.pg := rfl
@[simp] theorem State.stickHost_put : (s.stickHost who).put = s.put := rfl
@[simp] theorem State.stickHost_inputs : (s.stickHost who).inputs = s.inputs := rfl
@[simp] theorem State.stickHost_draws : (s.stickHost who).draws = s.draws := rfl
@[simp] theorem State.stickHost_readData : (s.stickHost who).readData = s.readData := rfl
@[simp] theorem State.stickHost_stuck : (s.stickHost who).stuck = s.stuck.add who := rfl
@[simp] theorem State.stickHost_caller : (s.stickHost who).caller = s.caller := rfl
@[simp] theorem State.stickHost_halts : (s.stickHost who).halts = s.halts := rfl

end

/-! ### haltHost (70_reset_and_hazards.md R320) -/

section
variable (s : State) (who : HostId)

@[simp] theorem State.haltHost_params : (s.haltHost who).params = s.params := rfl
@[simp] theorem State.haltHost_status : (s.haltHost who).status = s.status := rfl
@[simp] theorem State.haltHost_search : (s.haltHost who).search = s.search := rfl
@[simp] theorem State.haltHost_branch : (s.haltHost who).branch = s.branch := rfl
@[simp] theorem State.haltHost_rom : (s.haltHost who).rom = s.rom := rfl
@[simp] theorem State.haltHost_prev : (s.haltHost who).prev = s.prev := rfl
@[simp] theorem State.haltHost_result : (s.haltHost who).result = s.result := rfl
@[simp] theorem State.haltHost_fault : (s.haltHost who).fault = s.fault := rfl
@[simp] theorem State.haltHost_config : (s.haltHost who).config = s.config := rfl
@[simp] theorem State.haltHost_pgctl : (s.haltHost who).pgctl = s.pgctl := rfl
@[simp] theorem State.haltHost_arg0 : (s.haltHost who).arg0 = s.arg0 := rfl
@[simp] theorem State.haltHost_arg1 : (s.haltHost who).arg1 = s.arg1 := rfl
@[simp] theorem State.haltHost_arg2 : (s.haltHost who).arg2 = s.arg2 := rfl
@[simp] theorem State.haltHost_cursor : (s.haltHost who).cursor = s.cursor := rfl
@[simp] theorem State.haltHost_acc : (s.haltHost who).acc = s.acc := rfl
@[simp] theorem State.haltHost_wbyte : (s.haltHost who).wbyte = s.wbyte := rfl
@[simp] theorem State.haltHost_wsrc : (s.haltHost who).wsrc = s.wsrc := rfl
@[simp] theorem State.haltHost_puTime : (s.haltHost who).puTime = s.puTime := rfl
@[simp] theorem State.haltHost_rbuf : (s.haltHost who).rbuf = s.rbuf := rfl
@[simp] theorem State.haltHost_rmax : (s.haltHost who).rmax = s.rmax := rfl
@[simp] theorem State.haltHost_mem : (s.haltHost who).mem = s.mem := rfl
@[simp] theorem State.haltHost_memMap : (s.haltHost who).memMap = s.memMap := rfl
@[simp] theorem State.haltHost_pg : (s.haltHost who).pg = s.pg := rfl
@[simp] theorem State.haltHost_put : (s.haltHost who).put = s.put := rfl
@[simp] theorem State.haltHost_inputs : (s.haltHost who).inputs = s.inputs := rfl
@[simp] theorem State.haltHost_draws : (s.haltHost who).draws = s.draws := rfl
@[simp] theorem State.haltHost_readData : (s.haltHost who).readData = s.readData := rfl
@[simp] theorem State.haltHost_stuck : (s.haltHost who).stuck = s.stuck := rfl
@[simp] theorem State.haltHost_caller : (s.haltHost who).caller = s.caller := rfl
@[simp] theorem State.haltHost_halts : (s.haltHost who).halts = s.halts ++ [{ host := who, runEnd := s.runEnd }] := rfl

end

/-! ### stickBsm (20_memory.md R87) -/

section
variable (s : State)

@[simp] theorem State.stickBsm_params : (s.stickBsm).params = s.params := rfl
@[simp] theorem State.stickBsm_status : (s.stickBsm).status = s.status := rfl
@[simp] theorem State.stickBsm_search : (s.stickBsm).search = s.search := rfl
@[simp] theorem State.stickBsm_branch : (s.stickBsm).branch = s.branch := rfl
@[simp] theorem State.stickBsm_rom : (s.stickBsm).rom = s.rom := rfl
@[simp] theorem State.stickBsm_prev : (s.stickBsm).prev = s.prev := rfl
@[simp] theorem State.stickBsm_result : (s.stickBsm).result = s.result := rfl
@[simp] theorem State.stickBsm_fault : (s.stickBsm).fault = s.fault := rfl
@[simp] theorem State.stickBsm_config : (s.stickBsm).config = s.config := rfl
@[simp] theorem State.stickBsm_pgctl : (s.stickBsm).pgctl = s.pgctl := rfl
@[simp] theorem State.stickBsm_arg0 : (s.stickBsm).arg0 = s.arg0 := rfl
@[simp] theorem State.stickBsm_arg1 : (s.stickBsm).arg1 = s.arg1 := rfl
@[simp] theorem State.stickBsm_arg2 : (s.stickBsm).arg2 = s.arg2 := rfl
@[simp] theorem State.stickBsm_cursor : (s.stickBsm).cursor = s.cursor := rfl
@[simp] theorem State.stickBsm_acc : (s.stickBsm).acc = s.acc := rfl
@[simp] theorem State.stickBsm_wbyte : (s.stickBsm).wbyte = s.wbyte := rfl
@[simp] theorem State.stickBsm_wsrc : (s.stickBsm).wsrc = s.wsrc := rfl
@[simp] theorem State.stickBsm_puTime : (s.stickBsm).puTime = s.puTime := rfl
@[simp] theorem State.stickBsm_rbuf : (s.stickBsm).rbuf = s.rbuf := rfl
@[simp] theorem State.stickBsm_rmax : (s.stickBsm).rmax = s.rmax := rfl
@[simp] theorem State.stickBsm_mem : (s.stickBsm).mem = s.mem := rfl
@[simp] theorem State.stickBsm_memMap : (s.stickBsm).memMap = s.memMap := rfl
@[simp] theorem State.stickBsm_pg : (s.stickBsm).pg = s.pg := rfl
@[simp] theorem State.stickBsm_put : (s.stickBsm).put = s.put := rfl
@[simp] theorem State.stickBsm_inputs : (s.stickBsm).inputs = s.inputs := rfl
@[simp] theorem State.stickBsm_draws : (s.stickBsm).draws = s.draws := rfl
@[simp] theorem State.stickBsm_readData : (s.stickBsm).readData = s.readData := rfl
@[simp] theorem State.stickBsm_stuck : (s.stickBsm).stuck = { s.stuck with bsm := true } := rfl
@[simp] theorem State.stickBsm_caller : (s.stickBsm).caller = s.caller := rfl
@[simp] theorem State.stickBsm_halts : (s.stickBsm).halts = s.halts := rfl

end

/-! ### callBy (30_encoding.md R113) -/

section
variable (s : State) (who : HostId)

@[simp] theorem State.callBy_params : (s.callBy who).params = s.params := rfl
@[simp] theorem State.callBy_status : (s.callBy who).status = s.status := rfl
@[simp] theorem State.callBy_search : (s.callBy who).search = s.search := rfl
@[simp] theorem State.callBy_branch : (s.callBy who).branch = s.branch := rfl
@[simp] theorem State.callBy_rom : (s.callBy who).rom = s.rom := rfl
@[simp] theorem State.callBy_prev : (s.callBy who).prev = s.prev := rfl
@[simp] theorem State.callBy_result : (s.callBy who).result = s.result := rfl
@[simp] theorem State.callBy_fault : (s.callBy who).fault = s.fault := rfl
@[simp] theorem State.callBy_config : (s.callBy who).config = s.config := rfl
@[simp] theorem State.callBy_pgctl : (s.callBy who).pgctl = s.pgctl := rfl
@[simp] theorem State.callBy_arg0 : (s.callBy who).arg0 = s.arg0 := rfl
@[simp] theorem State.callBy_arg1 : (s.callBy who).arg1 = s.arg1 := rfl
@[simp] theorem State.callBy_arg2 : (s.callBy who).arg2 = s.arg2 := rfl
@[simp] theorem State.callBy_cursor : (s.callBy who).cursor = s.cursor := rfl
@[simp] theorem State.callBy_acc : (s.callBy who).acc = s.acc := rfl
@[simp] theorem State.callBy_wbyte : (s.callBy who).wbyte = s.wbyte := rfl
@[simp] theorem State.callBy_wsrc : (s.callBy who).wsrc = s.wsrc := rfl
@[simp] theorem State.callBy_puTime : (s.callBy who).puTime = s.puTime := rfl
@[simp] theorem State.callBy_rbuf : (s.callBy who).rbuf = s.rbuf := rfl
@[simp] theorem State.callBy_rmax : (s.callBy who).rmax = s.rmax := rfl
@[simp] theorem State.callBy_mem : (s.callBy who).mem = s.mem := rfl
@[simp] theorem State.callBy_memMap : (s.callBy who).memMap = s.memMap := rfl
@[simp] theorem State.callBy_pg : (s.callBy who).pg = s.pg := rfl
@[simp] theorem State.callBy_put : (s.callBy who).put = s.put := rfl
@[simp] theorem State.callBy_inputs : (s.callBy who).inputs = s.inputs := rfl
@[simp] theorem State.callBy_draws : (s.callBy who).draws = s.draws := rfl
@[simp] theorem State.callBy_readData : (s.callBy who).readData = s.readData := rfl
@[simp] theorem State.callBy_stuck : (s.callBy who).stuck = s.stuck := rfl
@[simp] theorem State.callBy_caller : (s.callBy who).caller = if s.fault.valid || s.status.waiter then s.caller else who := rfl
@[simp] theorem State.callBy_halts : (s.callBy who).halts = s.halts := rfl

end

end Sys2Proof.Machine
end

