-- ==== Sys2Proof/Laws/Ops.lean ====
section
/-! SUPPORT. What each shared operation can do, said once: the check order of a command, byte strings written, the write
cursor, fault entry, and the bit helper. -/

namespace Sys2Proof.Machine

/-! ### The check order (60_exceptions.md R275) -/

@[simp] theorem firstCause_nil : firstCause [] = none := rfl

@[simp] theorem firstCause_cons (b : Bool) (c : FaultCause) (rest : List (Bool × FaultCause)) :
    firstCause ((b, c) :: rest) = if b = true then some c else firstCause rest := rfl

/-- A command is accepted exactly when no check fails. -/
theorem firstCause_eq_none (checks : List (Bool × FaultCause)) :
    firstCause checks = none ↔ ∀ p ∈ checks, p.1 = false := by
  induction checks with
  | nil => simp
  | cons p rest ih =>
    obtain ⟨b, c⟩ := p
    cases b <;> simp [ih]

/-- What a command's issue can do: nothing in the faulted state, a fault of one of its causes, or its acceptance. -/
theorem State.issue_cases (s : State) (info : Byte) (checks : List (Bool × FaultCause)) (acc : Result) :
    (s.fault.valid = true ∧ s.issue info checks acc = .next s) ∨
    (s.fault.valid = false ∧ ∃ c, firstCause checks = some c ∧ s.issue info checks acc = .next (s.raiseFault c info)) ∨
    (s.fault.valid = false ∧ firstCause checks = none ∧ s.issue info checks acc = acc) := by
  unfold State.issue
  cases hv : s.fault.valid
  · cases hc : firstCause checks with
    | none => simp
    | some c => simp
  · simp

/-! ### Responses (20_memory.md R87) -/

@[simp] theorem State.respond_some (s t : State) : s.respond (some t) = .next t := rfl
@[simp] theorem State.respond_none (s : State) : s.respond none = .next s.stickBsm := rfl

/-- What a response can do: go on to a state, that of the response or, where it has no step, `s` with BSM stuck. -/
theorem State.respond_eq_next (s t : State) (r : Option State) :
    s.respond r = .next t ↔ r = some t ∨ r = none ∧ t = s.stickBsm := by
  cases r <;> simp [eq_comm]

/-! ### Byte strings -/

theorem State.writeBytes_frame (bs : List Byte) (s t : State) (a : Nat) (h : s.writeBytes a bs = some t) :
    t = { s with mem := t.mem } ∧ (s.mem.wf = true → t.mem.wf = true) := by
  induction bs generalizing s a with
  | nil =>
    simp only [State.writeBytes, Option.some.injEq] at h
    subst h
    exact ⟨rfl, id⟩
  | cons b rest ih =>
    simp only [State.writeBytes] at h
    cases hw : s.memWrite a b with
    | none => simp [hw] at h
    | some u =>
      rw [hw] at h
      obtain ⟨-, hu⟩ := (State.memWrite_eq_some s u a b).mp hw
      obtain ⟨ht, hm⟩ := ih u (u.addrAdd a 1) h
      subst hu
      exact ⟨ht, fun hs => hm (Memory.write_wf _ _ _ hs)⟩

/-- A byte string with a byte that host memory does not admit cannot be written (93 U5). -/
theorem State.writeBytes_withdrawn (bs : List Byte) (s : State) (a j : Nat) (hj : j < bs.length)
    (ha : a < 2 ^ s.params.addrW) (hn : s.byteAdmitted (s.addrAdd a j) = false) : s.writeBytes a bs = none := by
  induction bs generalizing s a j with
  | nil => simp at hj
  | cons b bs ih =>
    simp only [State.writeBytes]
    cases hw : s.memWrite a b with
    | none => rfl
    | some u =>
      obtain ⟨hb, rfl⟩ := (State.memWrite_eq_some s u a b).1 hw
      cases j with
      | zero =>
        rw [State.addrAdd_exact s a 0 (by simpa using ha), Nat.add_zero, hb] at hn
        cases hn
      | succ k =>
        refine ih _ _ k (by simpa using hj) (Nat.mod_lt _ (Nat.two_pow_pos _)) ?_
        rw [← hn]
        simp only [State.addrAdd, State.byteAdmitted, Nat.mod_add_mod, show a + 1 + k = a + (k + 1) by omega]
        rfl

/-- A byte string written to a valid range: it lands byte by byte, and every byte outside reads as before. -/
theorem State.writeBytes_of_validRange (bs : List Byte) (s : State) (a : Nat)
    (h : s.validRange a bs.length = true) (hm : s.mem.wf = true) :
    ∃ m : Memory, s.writeBytes a bs = some { s with mem := m } ∧ m.wf = true ∧
      (∀ j (hj : j < bs.length), m.read (a + j) = bs[j]) ∧
      (∀ x, x < a ∨ a + bs.length ≤ x → m.read x = s.mem.read x) := by
  induction bs generalizing s a with
  | nil => exact ⟨s.mem, rfl, hm, fun j hj => absurd hj (by simp), fun _ _ => rfl⟩
  | cons b rest ih =>
    have hadm : s.byteAdmitted a = true := by
      simpa using State.byteAdmitted_of_validRange s a _ 0 h (by simp)
    have hw : s.memWrite a b = some { s with mem := s.mem.write a b } := by
      rw [State.memWrite_eq_some]
      exact ⟨hadm, rfl⟩
    have hwf := Memory.write_wf s.mem a b hm
    have hlt := (State.validRange_bounds s a _ h).2
    simp only [List.length_cons] at h hlt ⊢
    simp only [State.writeBytes, hw]
    cases hrest : rest with
    | nil =>
      refine ⟨s.mem.write a b, rfl, hwf, fun j hj => ?_, fun x hx => ?_⟩
      · have : j = 0 := by simp at hj; omega
        subst this
        simp [Memory.read_write _ _ _ _ hm]
      · rw [Memory.read_write _ _ _ _ hm, if_neg]
        simp at hx
        omega
    | cons c cs =>
      have hlen : rest.length = cs.length + 1 := by simp [hrest]
      have hadd : State.addrAdd { s with mem := s.mem.write a b } a 1 = a + 1 := by
        apply State.addrAdd_exact
        show a + 1 < 2 ^ s.params.addrW
        omega
      have hv : State.validRange { s with mem := s.mem.write a b } (a + 1) rest.length = true :=
        State.validRange_part s a _ 1 _ h (by omega)
      obtain ⟨m, h1, h2, h3, h4⟩ := ih { s with mem := s.mem.write a b } (a + 1) hv hwf
      rw [hadd, ← hrest]
      refine ⟨m, h1, h2, fun j hj => ?_, fun x hx => ?_⟩
      · cases j with
        | zero =>
          rw [h4 (a + 0) (by omega)]
          simp [Memory.read_write _ _ _ _ hm]
        | succ k =>
          have hk : k < rest.length := by omega
          have := h3 k hk
          rw [show a + (k + 1) = a + 1 + k by omega, this]
          simp [hrest]
      · rw [h4 x (by omega)]
        show (s.mem.write a b).read x = s.mem.read x
        rw [Memory.read_write _ _ _ _ hm, if_neg (by omega)]

/-! ### The write cursor (41_bit_io.md R164) -/

/-- Within a byte AdvW moves the bit index only. -/
theorem State.advW_within (s : State) (h : s.status.bit ≠ 7) :
    s.advW = some { s with status := { s.status with bit := s.status.bit + 1 } } :=
  if_neg h

/-- After the last byte's last bit AdvW leaves bytes and bit 0 and fetches nothing. -/
theorem State.advW_last (s : State) (h : s.status.bit = 7) (hb : s.status.bytes = 1) :
    s.advW = some { s with status := { s.status with bit := 0, bytes := 0 }, cursor := s.nextCursor } := by
  simp [State.advW, h, hb]

/-- What AdvW can do, in every state: the bit moves, the last byte ends, the next byte is fetched, or the next byte was
withdrawn. -/
theorem State.advW_cases (s : State) :
    (s.status.bit ≠ 7 ∧ s.advW = some { s with status := { s.status with bit := s.status.bit + 1 } }) ∨
    (s.status.bit = 7 ∧ s.status.bytes = 1 ∧
      s.advW = some { s with status := { s.status with bit := 0, bytes := 0 }, cursor := s.nextCursor }) ∨
    (s.status.bit = 7 ∧ s.status.bytes ≠ 1 ∧ ∃ b, s.byteAt s.nextCursor.toNat = some b ∧
      s.advW = some { s with
        status := { s.status with bit := 0, bytes := s.status.bytes - 1 }, cursor := s.nextCursor, wbyte := b }) ∨
    (s.status.bit = 7 ∧ s.status.bytes ≠ 1 ∧ s.byteAt s.nextCursor.toNat = none ∧ s.advW = none) := by
  by_cases h7 : s.status.bit = 7
  · by_cases h1 : s.status.bytes = 1
    · exact .inr (.inl ⟨h7, h1, s.advW_last h7 h1⟩)
    · have hne : ¬ s.status.bytes - 1 = 0 := by
        intro h
        exact h1 (by bv_omega)
      have hb : ∀ st cu, State.byteAt { s with status := st, cursor := cu } cu.toNat = s.byteAt cu.toNat := by
        intro st cu
        cases hs : s.wsrc <;> simp [State.byteAt, hs, State.memRead, State.byteAdmitted]
      cases hf : s.byteAt s.nextCursor.toNat with
      | none =>
        refine .inr (.inr (.inr ⟨h7, h1, rfl, ?_⟩))
        rw [State.advW, if_pos h7]
        simp only [if_neg hne, hb, hf]
      | some b =>
        refine .inr (.inr (.inl ⟨h7, h1, b, rfl, ?_⟩))
        rw [State.advW, if_pos h7]
        simp only [if_neg hne, hb, hf]
  · exact .inl ⟨h7, s.advW_within h7⟩

/-! ### Bits -/

/-- `v[i] <- b` sets bit i and no other (00_scope.md R10, R11). -/
theorem putBit_getLsbD {w : Nat} (v : BitVec w) (i j : Nat) (b : Bool) (hj : j < w) :
    (putBit v i b).getLsbD j = if j = i then b else v.getLsbD j := by
  unfold putBit
  by_cases h : j = i
  · subst h
    cases b <;> simp [hj]
  · cases b <;> simp [h, hj]

@[simp] theorem flagWord_true : flagWord true = 1 := rfl
@[simp] theorem flagWord_false : flagWord false = 0 := rfl

end Sys2Proof.Machine
end

