-- ==== Sys2Proof/Laws/Events.lean ====
section
/-! SUPPORT. What a delivered event, PG, PUT and a host can do, and what the end of a search pass and a stored byte can
do, said once. -/

namespace Sys2Proof.Machine

/-! ### Event dispatch (41_bit_io.md R155) -/

theorem State.masterDue_of_ready (s : State) (h : s.MasterReady) : s.masterDue = true := by
  obtain ⟨-, h2, h3⟩ := h
  rcases h3 with h3 | h3 <;> simp [State.masterDue, h2, h3]

theorem State.sampleDue_of_ready (s : State) (h : s.SampleReady) : s.sampleDue = true := by
  obtain ⟨-, h2, h3, h4⟩ := h
  simp [State.sampleDue, h2, h3, h4]

/-- The response to a MASTER that PG's contract lets come, by the operation in flight. -/
theorem exec_master_of_ready (s : State) (h : s.MasterReady) :
    exec (.master false) s =
      match s.status.op with
      | .none => s.spurious 1
      | .reset => s.respond s.latchSlot.masterReset
      | .read => s.respond s.latchSlot.masterRead
      | .write => s.respond s.latchSlot.masterWrite
      | .triplet => s.respond s.latchSlot.masterTriplet
      | .pullup => s.spurious 1 := by
  simp only [exec, execMaster, State.ignoresEvents, h.1.1, h.1.2, State.masterDue_of_ready s h]
  cases s.status.op <;> rfl

/-- The response to a SAMPLE that PG's contract lets come, by the operation in flight. -/
theorem exec_sample_of_ready (s : State) (pin : Bool) (h : s.SampleReady) :
    exec (.sample pin) s =
      match s.status.op with
      | .none => s.spurious 2
      | .reset => .next (s.closeSlot.sampleReset pin)
      | .read => s.respond (s.closeSlot.sampleRead pin)
      | .write => s.spurious 2
      | .triplet => .next (s.closeSlot.sampleTriplet pin)
      | .pullup => s.spurious 2 := by
  simp only [exec, execSample, State.ignoresEvents, h.1.1, h.1.2, State.sampleDue_of_ready s h]
  cases s.status.op <;> rfl

/-! ### PG's and PUT's moves (60_exceptions.md R283, R285) and a host's (20_memory.md R84) -/

/-- Where OWE takes no step on events, no event changes anything. -/
theorem exec_event_of_ignored (s : State) (h : s.ignoresEvents = true) :
    exec (.master false) s = .next s ∧ (∀ pin, exec (.sample pin) s = .next s) ∧
      exec (.pullupEnd false) s = .next s := by
  simp [exec, execMaster, execSample, execPullupEnd, h]

/-- What PG and PUT can do: nothing where OWE answers no event or neither runs; a due SAMPLE with the next drawn pin;
else a MASTER; else a PULLUP_END. -/
theorem State.environment_cases (s : State) :
    s.environmentMoves = false ∧ (¬ s.Answers ∨ s.pgctl.run = false ∧ s.put = none) ∨
    s.environmentMoves = true ∧
      (s.SampleReady ∧ s.environment = exec (.sample (Config.pinDraw s.draws)) { s with draws := s.draws + 1 } ∨
        s.MasterReady ∧ s.environment = exec (.master false) s ∨
        s.Answers ∧ s.pgctl.run = false ∧ s.put.isSome = true ∧ s.environment = exec (.pullupEnd false) s) := by
  unfold State.environmentMoves State.environment State.ignoresEvents State.SampleReady State.MasterReady State.Answers
    State.sampleDue
  cases s.fault.valid <;> cases s.stuck.bsm <;> cases s.pgctl.run <;> cases s.pgctl.sampleEn <;>
    cases s.pg.slotOpen <;> cases s.put <;> simp

/-- An access that is not admitted leaves its host stuck, and every other one as before. -/
@[simp] theorem State.stickHost_isStuck (s : State) (who other : HostId) :
    (s.stickHost who).isStuck other = (decide (other = who) || s.isStuck other) := by
  by_cases h : who ∈ s.stuck.hosts
  · by_cases ho : other = who <;> simp [State.isStuck, StuckAgents.add, h, ho]
  · simp [State.isStuck, StuckAgents.add, h]

/-- HALT ends its host's program, and every other one goes on. -/
@[simp] theorem State.haltHost_hasHalted (s : State) (who other : HostId) :
    (s.haltHost who).hasHalted other = (s.hasHalted other || who == other) := by
  simp [State.hasHalted]

/-- HALT records a success exactly in the states of R320. -/
theorem State.runEnd_eq_success (s : State) : s.runEnd = .success ↔ s.EndsWell := by
  unfold State.runEnd
  split_ifs with h1 h2
  · simp [State.EndsWell, h1]
  · exact iff_of_true rfl h2
  · exact iff_of_false (by simp) h2

/-! ### What arrives (log 1) -/

/-- An input that is not held back arrives where it is the first one. -/
theorem State.arrival_head (s : State) (i : Input) (rest : List Input) (h : s.inputs = i :: rest)
    (hf : s.holds i = false) : s.arrival = some (i, rest) := by
  simp [State.arrival, State.headHeld, State.firstFree, h, hf]

/-- An input that is first and is not held back is delivered, in the state without it. -/
theorem step_head (s : State) (i : Input) (rest : List Input) (h : s.inputs = i :: rest) (hf : s.holds i = false) :
    step s = State.deliver { s with inputs := rest } i := by
  simp [step, State.advance, s.arrival_head i rest h hf]

/-- Where nothing arrives, PG or PUT moves if it can. -/
theorem step_of_nothingArrives (s : State) (h : s.NothingArrives) (hm : s.environmentMoves = true) :
    s.arrival = none ∧ step s = s.environment := by
  have ha : s.arrival = none := by
    rcases h with h | ⟨act, rest, h, hw, hs⟩
    · simp [State.arrival, State.headHeld, State.firstFree, h]
    · simp [State.arrival, State.headHeld, State.holds, State.isBlocked, h, hw, hs, hm]
  simp [step, State.advance, ha, hm]

/-- A host that can act acts, in the state without that input; the action of one that is done has no effect. -/
theorem step_host (s : State) (who : HostId) (act : HostAction) (rest : List Input)
    (h : s.inputs = .host who act :: rest) :
    (s.CanAct who → step s = State.hostAct { s with inputs := rest } who act) ∧
    (s.isDone who = true → step s = .next { s with inputs := rest }) := by
  have hd : State.isDone { s with inputs := rest } who = s.isDone who := rfl
  refine ⟨fun hc => ?_, fun hs => ?_⟩
  · have h0 : s.isDone who = false := by simp [State.isDone, hc.1, hc.2.1]
    rw [step_head s _ rest h (by simpa [State.holds, State.isBlocked] using fun hw hb => absurd ⟨hw, hb⟩ hc.2.2)]
    simp [State.deliver, hd, h0]
  · rw [step_head s _ rest h (by simp [State.holds, hs])]
    simp [State.deliver, hd, hs]

theorem le_foldl_max (l : List Nat) (b : Nat) : b ≤ l.foldl max b ∧ ∀ x ∈ l, x ≤ l.foldl max b := by
  induction l generalizing b with
  | nil => simp
  | cons a rest ih =>
    obtain ⟨h1, h2⟩ := ih (max b a)
    refine ⟨le_trans (le_max_left b a) h1, fun x hx => ?_⟩
    rcases List.mem_cons.1 hx with rfl | hx
    · exact le_trans (le_max_right b x) h1
    · exact h2 x hx

/-- The host that places a fetched command can act. -/
theorem State.freeHost_canAct (s : State) : s.CanAct s.freeHost := by
  unfold State.freeHost
  split_ifs with h
  · cases hw : s.status.waiter <;>
      simp_all [State.canAct, State.CanAct, State.isBlocked, State.isDone]
  · have hm := (le_foldl_max (s.caller :: (s.stuck.hosts ++ s.halts.map Halt.host)) 0).2
    generalize (s.caller :: (s.stuck.hosts ++ s.halts.map Halt.host)).foldl max 0 = m at hm
    have hn : ∀ x ∈ s.caller :: (s.stuck.hosts ++ s.halts.map Halt.host), x ≠ m + 1 := by
      rintro x hx rfl
      exact absurd (hm _ hx) (Nat.not_succ_le_self m)
    simp only [List.mem_cons, List.mem_append, List.mem_map] at hn
    refine ⟨?_, ?_, fun hb => hn s.caller (.inl rfl) hb.2⟩
    · simpa [State.isStuck] using fun hx => hn (m + 1) (.inr (.inl hx)) rfl
    · simpa [State.hasHalted] using fun x hx => hn x.host (.inr (.inr ⟨x, hx, rfl⟩))

/-! ### A READ's byte (41_bit_io.md R162) -/

/-- What storing a READ's byte can do: the byte was admitted, and memory, the cursor, acc, the counters and, after the
last byte, sample_en change. -/
theorem State.storeReadByte_eq_some (s t : State) :
    s.storeReadByte = some t ↔
      s.byteAdmitted s.cursor.toNat = true ∧
      t = { s with
        mem := s.mem.write s.cursor.toNat s.acc
        cursor := s.nextCursor
        acc := 0
        status := { s.status with bytes := s.status.bytes - 1, bit := 0 }
        pgctl := { s.pgctl with sampleEn := if s.status.bytes - 1 = 0 then false else s.pgctl.sampleEn } } := by
  unfold State.storeReadByte
  cases hw : s.memWrite s.cursor.toNat s.acc with
  | none =>
    have hn : s.byteAdmitted s.cursor.toNat = false := by
      cases hb : s.byteAdmitted s.cursor.toNat
      · rfl
      · simp [State.memWrite, hb] at hw
    simp [hn]
  | some u =>
    obtain ⟨hb, rfl⟩ := (State.memWrite_eq_some s u _ _).1 hw
    by_cases h0 : s.status.bytes - 1 = 0
    · simp only [hb, h0, if_true, true_and, Option.some.injEq]
      exact ⟨fun h => h.symm, fun h => h.symm⟩
    · simp only [hb, h0, if_false, true_and, Option.some.injEq]
      exact ⟨fun h => h.symm, fun h => h.symm⟩

/-! ### The end of a search pass (42_search_rom.md R221) -/

theorem romBytes_length (rom : BitVec 64) : (romBytes rom).length = 8 := by simp [romBytes]

/-- What recording a code can do: only memory, devices_found and PREV change. -/
theorem State.srcRecord_frame (s t : State) (h : s.srcRecord = some t) :
    t = { s with
      mem := t.mem
      search := { s.search with devicesFound := s.search.devicesFound + 1 }
      prev := s.rom } ∧ (s.mem.wf = true → t.mem.wf = true) := by
  unfold State.srcRecord at h
  cases hw : s.writeBytes (s.addrAdd s.rbuf.toNat (8 * s.search.devicesFound.toNat)) (romBytes s.rom) with
  | none => simp [hw] at h
  | some u =>
    obtain ⟨hu, hm⟩ := State.writeBytes_frame _ _ _ _ hw
    simp only [hw, Option.some.injEq] at h
    subst h
    exact ⟨by rw [hu], hm⟩

/-- What the end of a pass can do: an ERROR pass finishes; a recorded LAST pass finishes; a recorded SUCCESS pass goes to
the capacity check; or a byte of the result buffer was withdrawn. -/
theorem State.srcAfterPass_cases (s : State) :
    (s.search.result = .error ∧ s.srcAfterPass = some s.srcFinish) ∨
    (s.search.result ≠ .error ∧ s.srcRecord = none ∧ s.srcAfterPass = none) ∨
    (s.search.result = .last ∧ ∃ t, s.srcRecord = some t ∧ s.srcAfterPass = some t.srcFinish) ∨
    (s.search.result = .success ∧ ∃ t, s.srcRecord = some t ∧
      s.srcAfterPass = some (State.srcNextPass { t with search := { t.search with kind := .next } })) := by
  unfold State.srcAfterPass
  cases hr : s.search.result with
  | error => simp
  | last =>
    cases ht : s.srcRecord with
    | none => simp
    | some t =>
      have : t.search.result = .last := by
        rw [(State.srcRecord_frame s t ht).1]
        exact hr
      simp [this]
  | success =>
    cases ht : s.srcRecord with
    | none => simp
    | some t =>
      have : t.search.result = .success := by
        rw [(State.srcRecord_frame s t ht).1]
        exact hr
      simp [this]

end Sys2Proof.Machine
end

