-- ==== Sys2Proof/Laws/PerInstr.lean ====
section
/-! SUPPORT. Families of facts about every instruction as syntax, one lemma per constructor. -/

/-- A well-formed instruction's word, at the port its format names, decodes to it (30_encoding.md R101, R111). -/
def Sys2Proof.Laws.RoundTrip.Statement (i : Sys2Proof.Instr) : Prop :=
  i.wellFormed = true → Sys2Proof.decode (Sys2Proof.encode i) = .ok i

namespace Sys2Proof.Laws.RoundTrip

theorem objinit : Statement .objinit := fun _ => rfl
theorem start : Statement .start := fun _ => rfl
theorem stop : Statement .stop := fun _ => rfl
theorem reset : Statement .reset := fun _ => rfl
theorem read : Statement .read := fun _ => rfl
theorem write : Statement .write := fun _ => rfl
theorem search : Statement .search := fun _ => rfl
theorem crc8 : Statement .crc8 := fun _ => rfl

theorem master (pin : Bool) : Statement (.master pin) := by
  cases pin
  · exact fun _ => rfl
  · exact fun h => absurd h (by decide)

theorem sample (pin : Bool) : Statement (.sample pin) := by
  cases pin <;> exact fun _ => rfl

theorem pullupEnd (pin : Bool) : Statement (.pullupEnd pin) := by
  cases pin
  · exact fun _ => rfl
  · exact fun h => absurd h (by decide)

end Sys2Proof.Laws.RoundTrip
end

