-- ==== Sys2Proof/Machine/Timing.lean ====
section
/-! DEFINITION. The slot counts of 41_bit_io.md R170 and the informative durations of 70_reset_and_hazards.md R317. No
step reads them: the model has no time (92 D34; log 20). -/

namespace Sys2Proof.Machine

/-- Slots of a RESET: one pulse slot and the final timeslot (41_bit_io.md R170). -/
def resetSlots : Nat := 2

/-- Slots of a READ or WRITE of `n` bytes (41_bit_io.md R170). -/
def byteSlots (n : Nat) : Nat := 8 * n + 1

/-- Slots of one full search pass: reset, command byte, 64 triplets and their final timeslot (42_search_rom.md R223). -/
def passSlots : Nat := resetSlots + byteSlots 1 + (3 * 64 + 1)

/-- RESET, and a search pass with no presence (R317). -/
def resetTime (t : SlotTiming) : Nat := t.resetSlot

/-- READ n and WRITE n (R317). -/
def byteTime (t : SlotTiming) (n : Nat) : Nat := 8 * n * t.bitSlot

/-- WRITE n with a pull-up of `d` ticks of PU_TICK (R317, R318); PU_TICK is a free value (log 27). -/
def pullupWriteTime (t : SlotTiming) (n d : Nat) : Nat := byteTime t n + d * Config.puTick

/-- One full search pass (R317). -/
def passTime (t : SlotTiming) : Nat := t.resetSlot + 8 * t.bitSlot + 192 * t.bitSlot

/-- A pass aborted at bit `i` (R317). -/
def abortedPassTime (t : SlotTiming) (i : Nat) : Nat := t.resetSlot + 8 * t.bitSlot + (3 * i + 2) * t.bitSlot

/-- A SEARCH that finds `m` devices and ends LAST (R317). -/
def searchTime (t : SlotTiming) (m : Nat) : Nat := m * passTime t

/-- How long PG drives the line low in a slot of each kind (41_bit_io.md R154). -/
def LowPulse.time (t : SlotTiming) : LowPulse → Nat
  | .none => 0
  | .resetLow => t.resetLow
  | .readLow => t.readLow
  | .w0Low => t.write0Low
  | .w1Low => t.write1Low

/-- The period of a slot, from its latched period_sel (41_bit_io.md R150). -/
def slotTime (t : SlotTiming) (periodSel : Bool) : Nat := if periodSel then t.resetSlot else t.bitSlot

/-- The sample point of a slot, from sample_sel (41_bit_io.md R152). -/
def sampleTime (t : SlotTiming) (sampleSel : Bool) : Nat := if sampleSel then t.presenceSample else t.readSample

/-- The deadline window of a response that must precede the next boundary (70_reset_and_hazards.md R312). -/
def responseWindow (t : SlotTiming) (periodSel sampleSel : Bool) : Nat :=
  slotTime t periodSel - sampleTime t sampleSel

end Sys2Proof.Machine
end

