-- ==== Sys2Proof/Tests/Slice0.lean ====
section
/-! SUPPORT. Tests: the well-formedness smoke, words written out from 30_encoding.md R101 and R111, single steps with
results from spec/95_test_vectors.md or worked out from the rules, and a witness for the hypotheses of each statement. -/

namespace Sys2Proof.Tests

open Sys2Proof Sys2Proof.Machine

/-! ### Helpers -/

/-- The step goes on to a state that passes the check. -/
def answers (o : Result) (p : State → Bool) : Bool :=
  match o with
  | .next t => p t
  | .fault _ => false
  | .refused _ => false

/-- The step stops with this fault. -/
def stops (o : Result) (f : Fault) : Bool :=
  match o with
  | .next _ => false
  | .fault g => decide (g = f)
  | .refused _ => false

/-- The step is refused for this reason. -/
def refuses (o : Result) (r : Refusal) : Bool :=
  match o with
  | .next _ => false
  | .fault _ => false
  | .refused q => decide (q = r)

/-- The standard start of 95_test_vectors.md: OBJINIT, then START 0x00000F10, with operands and host memory. -/
def started (a n d : Word) (m : Memory) : State :=
  { State.reset with
    status := { Status.powerOn with state := .ready }
    branch := { lastZero := 0xFF, prevZero := 0xFF }
    config := 0x1F10, arg0 := a, arg1 := n, arg2 := d, mem := m }

/-- A driver in state `d` with nothing in flight. -/
def idleIn (d : DriverState) : State := { State.reset with status := { Status.powerOn with state := d } }

/-- An operation of 1 byte in flight at address 0x100, the host blocked: a SAMPLE is due, or a MASTER. -/
def inFlight (op : BsmOp) (final sample : Bool) (bytes : BitVec 16) (bit : BitVec 3) : State :=
  let s := started 0x100 1 0 []
  { s with
    status := { s.status with op := op, waiter := true, finalTimeslot := final, bytes := bytes, bit := bit }
    pgctl := { PgCtl.idle with run := true, sampleEn := sample }
    pg := { PulseGen.idle with slotOpen := sample }
    cursor := 0x100 }

/-- A search pass in flight, with room for two codes at 0x100. -/
def inPass (op : BsmOp) (phase : SearchPhase) (final sample : Bool) (reg : SearchReg) : State :=
  let s := inFlight op final sample 1 0
  { s with search := { reg with phase := phase }, rbuf := 0x100, rmax := 2 }

/-- A machine with a fault recorded. -/
def faulted (s : State) : State := s.raiseFault .badState 0x4

/-- The strong pull-up phase. -/
def powering : State :=
  let s := started 0x100 1 5 []
  { s with
    status := { s.status with op := .pullup, state := .pullUp, waiter := true }
    pgctl := { PgCtl.idle with puAsserted := true }
    put := some 5 }

/-- A READ whose last bit is due, with that SAMPLE arriving. -/
def lastBitDue : State := { inFlight .read true true 1 7 with inputs := [.event 6] }

/-- The device T1 of 95_test_vectors.md: 28 AA BB CC DD EE FF 0C. -/
def codeT1 : BitVec 64 := 0x0CFFEEDDCCBBAA28

/-- A pass that has assembled T1, `found` codes recorded before it, room for two. -/
def passDone (single : Bool) (lastZero : BitVec 8) (found : BitVec 16) : State :=
  let s := inPass .triplet .triplet true false { SearchReg.powerOn with singleDevice := single, devicesFound := found }
  { s with rom := codeT1, branch := { lastZero := lastZero, prevZero := 0xFF } }

/-- The invariant of a state that meets the control invariant, part by part. -/
theorem inv_of_control (s : State)
    (h : s.params.ok = true ∧ s.mem.wf = true ∧ s.InRange ∧ s.HostsOnce ∧ (s.stuck.bsm = true → s.status.waiter = true))
    (hc : s.Control) : s.Inv :=
  ⟨h.1, h.2.1, h.2.2.1, h.2.2.2.1, h.2.2.2.2, fun _ => hc⟩

theorem lastBitDue_inv : lastBitDue.Inv := inv_of_control _ (by decide +kernel) (by decide +kernel)

/-! ### Well-formedness -/

theorem test_wf_master_pin_refused : (Instr.master true).wellFormed = false := rfl
theorem test_wf_pullupEnd_pin_refused : (Instr.pullupEnd true).wellFormed = false := rfl
theorem test_wf_sample_pin_legal : (Instr.sample true).wellFormed = true ∧ (Instr.sample false).wellFormed = true :=
  ⟨rfl, rfl⟩

/-! ### Words written out from the encoding tables (30_encoding.md R101, R111, R120) -/

theorem test_decode_objinit : decode (.command 0b00000000000000000000000000000001#32) = .ok .objinit := rfl
theorem test_decode_start : decode (.command 0b00000000000000000000000000000010#32) = .ok .start := rfl
theorem test_decode_stop : decode (.command 0b00000000000000000000000000000011#32) = .ok .stop := rfl
theorem test_decode_reset : decode (.command 0b00000000000000000000000000000100#32) = .ok .reset := rfl
theorem test_decode_read : decode (.command 0b00000000000000000000000000000101#32) = .ok .read := rfl
theorem test_decode_write : decode (.command 0b00000000000000000000000000000110#32) = .ok .write := rfl
theorem test_decode_search : decode (.command 0b00000000000000000000000000000111#32) = .ok .search := rfl
theorem test_decode_crc8 : decode (.command 0b00000000000000000000000000001000#32) = .ok .crc8 := rfl
theorem test_decode_master : decode (.event 0b001#3) = .ok (.master false) := rfl
theorem test_decode_sample_low : decode (.event 0b010#3) = .ok (.sample false) := rfl
theorem test_decode_sample_high : decode (.event 0b110#3) = .ok (.sample true) := rfl
theorem test_decode_pullupEnd : decode (.event 0b011#3) = .ok (.pullupEnd false) := rfl

/-- 30_encoding.md R128, last row: bits [31:4] ≠ 0, although bits [3:0] = 0x4. -/
theorem test_decode_reserved_high_bits : decode (.command 0x00000014#32) = .error (.reservedOpcode 0x14) := rfl

theorem test_table_word_event : decodeTableWord 3 0b110 = some (.sample true) ∧ decodeTableWord 8 0b001 = some (.master false) :=
  ⟨rfl, rfl⟩
theorem test_table_word_command : decodeTableWord 32 7 = some .search ∧ decodeTableWord 32 9 = none := ⟨rfl, rfl⟩

/-! ### Single steps -/

/-- The standard start: STATUS.state = STOP, BRANCH 0000FFFF after OBJINIT. -/
theorem test_objinit : answers (exec .objinit (idleIn .uninit))
    (fun t => decide (t.readReg .status = 1 ∧ t.readReg .branch = 0x0000FFFF ∧ t.result = 0)) = true := by decide +kernel

/-- START 0x00000F10 (43_lifecycle.md R251): CONFIG = 0x00001F10, STATUS 00000002. -/
theorem test_start : answers (exec .start { idleIn .stop with arg0 := 0xF10 })
    (fun t => decide (t.readReg .config = 0x1F10 ∧ t.readReg .status = 2)) = true := by decide

/-- master_ch = sample_ch: FAULT 00000261. -/
theorem test_start_equal_channels : answers (exec .start { idleIn .stop with arg0 := 0xF00 })
    (fun t => decide (t.readReg .fault = 0x261)) = true := by decide

theorem test_stop : answers (exec .stop (started 0 0 0 []))
    (fun t => decide (t.readReg .status = 1 ∧ t.readReg .config = 0 ∧ t.readReg .pgctl = 0)) = true := by decide

/-- V-RST-1, first row: PGCTL 67. -/
theorem test_reset : answers (exec .reset (started 0 0 0 []))
    (fun t => decide (t.readReg .status = 0x902 ∧ t.readReg .pgctl = 0x67)) = true := by decide

/-- READ of one byte: STATUS 00010A02, PGCTL 29 (95_test_vectors.md, worked decodes). -/
theorem test_read : answers (exec .read (started 0x100 1 0 []))
    (fun t => decide (t.readReg .status = 0x00010A02 ∧ t.readReg .pgctl = 0x29)) = true := by decide

theorem test_read_count_zero : answers (exec .read (started 0x100 0 0 []))
    (fun t => decide (t.readReg .fault = 0x541)) = true := by decide

/-- 41_bit_io.md R168, the byte 0xF0: the first slot is a write-0 slot, bit 1 is next, and the pull-up is requested. -/
theorem test_write : answers (exec .write (started 0x100 1 5 [(0x100, 0xF0)]))
    (fun t => decide (t.pgctl.nextLow = .w0Low ∧ t.status.bit = 1 ∧ t.status.needPullup = true ∧ t.puTime = 5)) = true := by decide

theorem test_search : answers (exec .search (started 0x200 4 0 []))
    (fun t => decide (t.search.phase = .reset ∧ t.rmax = 4 ∧ t.rbuf = 0x200 ∧ t.readReg .pgctl = 0x67)) = true := by decide

/-- 42_search_rom.md R200: the range is 8·max bytes; from 0xFFFFFFF0 two codes end at 2³², three wrap. -/
theorem test_search_range : answers (exec .search (started 0xFFFFFFF0 2 0 [])) (fun t => !t.fault.valid) = true ∧
    answers (exec .search (started 0xFFFFFFF0 3 0 [])) (fun t => decide (t.readReg .fault = 0x751)) = true := by decide

/-- 92 D36: a buffer that runs across two adjacent regions is valid, and one that runs past the second is not. -/
theorem test_valid_across_regions :
    let s := { started 0xFF 2 0 [] with memMap := [{ base := 0x10, size := 0xF0 }, { base := 0x100, size := 1 }] }
    answers (exec .read s) (fun t => !t.fault.valid) = true ∧
    answers (exec .read { s with arg1 := 3 }) (fun t => decide (t.readReg .fault = 0x551)) = true := by decide

/-- 20_memory.md R84: a wider access leaves its host stuck; the other host goes on. -/
theorem test_wide_access_sticks_its_host :
    answers (step { State.reset with inputs := [.host 0 (.read 0x14 .wide)] })
      (fun t => t.isStuck 0 && !t.isStuck 1) = true ∧
    answers (step { State.reset with
        stuck := { hosts := [0], bsm := false }, inputs := [.host 1 (.write 0x00 .word 1)] })
      (fun t => decide (t.status.state = .stop)) = true := by decide +kernel

/-- 30_encoding.md R113, V-FLT-4: a RESET that host 1 issues blocks host 1, and the next command of host 0 raises BUSY. -/
theorem test_issuer_is_blocked :
    answers (step { started 0 0 0 [] with inputs := [.host 1 (.write 0x00 .word 4)] })
      (fun t => !t.canAct 1 && t.canAct 0) = true ∧
    answers (step { inFlight .reset false false 1 0 with caller := 1, inputs := [.host 0 (.write 0x00 .word 4)] })
      (fun t => decide (t.readReg .fault = 0x431)) = true := by decide +kernel

/-- 20_memory.md R87: a READ's byte withdrawn: BSM is stuck, nothing is stored, and a second host's command still raises
BUSY. -/
theorem test_withdrawn_byte_sticks_bsm :
    answers (exec (.sample true) { inFlight .read true true 1 7 with memMap := [] })
      (fun t => t.stuck.bsm && decide (t.mem = []) && t.status.waiter) = true ∧
    answers (step { inFlight .read true true 1 7 with
        stuck := { hosts := [], bsm := true }, inputs := [.host 1 (.write 0x00 .word 8)] })
      (fun t => decide (t.readReg .fault = 0x831)) = true := by decide +kernel

/-- The standard start with the register block at 0x40000000. -/
def based (s : State) : State := { s with params := { s.params with oweBase := 0x40000000 } }

/-- 20_memory.md R84, R89: a byte stored at the last address of the register block leaves its host stuck and stores
nothing; one past the block reaches memory. -/
theorem test_byte_access_in_the_register_block :
    answers (step { based (started 0 0 0 []) with inputs := [.host 2 (.store 0x4000003F 7)] })
      (fun t => t.isStuck 2 && decide (t.mem = [])) = true ∧
    answers (step { based (started 0 0 0 []) with inputs := [.host 2 (.store 0x40000040 7)] })
      (fun t => !t.isStuck 2 && decide (t.mem = [(0x40000040, 7)])) = true := by decide

/-- 60_exceptions.md R287: a third host's command raises BUSY beside a blocked host and a stuck one. -/
theorem test_third_host_busy :
    answers (step { inFlight .reset false false 1 0 with
        stuck := { hosts := [1], bsm := false }, inputs := [.host 2 (.write 0x00 .word 4)] })
      (fun t => decide (t.readReg .fault = 0x431)) = true := by decide +kernel

/-- 70_reset_and_hazards.md R320: HALT after a finished operation is a success, and with another host's operation in flight
it is not. -/
theorem test_halt :
    answers (step { started 0 0 0 [] with inputs := [.host 0 .halt] })
      (fun t => decide (t.halts = [{ host := 0, runEnd := .success }])) = true ∧
    answers (step { inFlight .read false false 1 0 with inputs := [.host 1 .halt] })
      (fun t => decide (t.halts = [{ host := 1, runEnd := .unfinished }])) = true := by decide

/-- V-CRC-6. -/
theorem test_crc8_T1 : answers (exec .crc8 (started 0x100 7 0
      [(0x100, 0x28), (0x101, 0xAA), (0x102, 0xBB), (0x103, 0xCC), (0x104, 0xDD), (0x105, 0xEE), (0x106, 0xFF)]))
    (fun t => decide (t.result = 0x0C)) = true := by decide +kernel

/-- V-CRC-29: the range wraps, FAULT 00000851. -/
theorem test_crc8_wrap : answers (exec .crc8 (started 0xFFFFFFFF 2 0 []))
    (fun t => decide (t.readReg .fault = 0x851)) = true := by decide

/-- 42_search_rom.md R211: slot W of bit 63 enters the final timeslot. -/
theorem test_master_last_triplet : answers
    (exec (.master false) (inPass .triplet .triplet false false { SearchReg.powerOn with bitStep := .slotW, rombit := 63 }))
    (fun t => t.status.finalTimeslot && decide (t.pgctl.nextLow = .none)) = true := by decide

/-- 41_bit_io.md R165: bit 7 of the last byte programmed: bytes becomes 0, final_timeslot is not yet set. -/
theorem test_master_write_last_bit : answers
    (exec (.master false) { inFlight .write false false 1 7 with wbyte := 0x80 })
    (fun t => decide (t.status.bytes = 0 ∧ t.status.bit = 0 ∧ t.pgctl.nextLow = .w1Low ∧ t.status.finalTimeslot = false)) =
    true := by decide

/-- 41_bit_io.md R162: bit 7 of the last byte: the byte is stored, LSB first, and sampling stops. -/
theorem test_sample_stores_the_byte : answers
    (exec (.sample true) { inFlight .read true true 1 7 with acc := 0x05 })
    (fun t => decide (t.mem = [(0x100, 0x85)] ∧ t.pgctl.sampleEn = false ∧ t.cursor = 0x101 ∧ t.acc = 0)) = true := by decide

/-- 42_search_rom.md R214: a conflict above prev_zero_branch takes 0 and marks its index. -/
theorem test_sample_conflict : answers
    (exec (.sample false) { inPass .triplet .triplet false true { SearchReg.powerOn with bitStep := .slotB, rombit := 15 }
      with branch := { lastZero := 0xFF, prevZero := 0xFF } })
    (fun t => decide (t.branch.lastZero = 15 ∧ t.pgctl.nextLow = .w0Low ∧ t.search.singleDevice = false)) = true := by decide

theorem test_pullupEnd : answers (exec (.pullupEnd false) powering)
    (fun t => decide (t.readReg .status = 2 ∧ t.readReg .pgctl = 0 ∧ t.put = none)) = true := by decide

/-- 41_bit_io.md R155: PULLUP_END with nothing in flight, FAULT 00000381. -/
theorem test_pullupEnd_spurious : answers (exec (.pullupEnd false) (started 0 0 0 []))
    (fun t => decide (t.readReg .fault = 0x381)) = true := by decide

/-- The bound of 42_search_rom.md R223: 204 slots a pass. -/
theorem test_pass_slots : passSlots = 204 := rfl

/-- 70_reset_and_hazards.md R316: the defaults meet the constraints of its table; 00_scope.md R6: so do the widths. -/
theorem test_defaults_legal : SlotTiming.standard.ok = true ∧ Params.standard.ok = true := by decide

/-! ### Witnesses: concrete states and operands that meet the hypotheses of each statement -/

theorem witness_EncodedInstructionDecodesBack : (Instr.sample true).wellFormed = true := rfl

theorem witness_DecodedWordIsItsEncoding : decode (.command 8) = .ok .crc8 ∧ decode (.event 6) = .ok (.sample true) :=
  ⟨rfl, rfl⟩

theorem witness_EventWordsOutsideTheTable :
    step { State.reset with inputs := [.event 0b100] } = .next State.reset ∧
    step { State.reset with inputs := [.event 0b101] } = .refused .illegalEventWord := ⟨rfl, rfl⟩

theorem witness_ReservedCommandWordFaults :
    (State.reset.fault.valid = false ∧ State.reset.CanAct 0) ∧
    ((0 : Word).toNat = 0 ∧ 8 < (9 : Word).toNat ∧ 8 < (0xFFFFFFFF : Word).toNat) ∧
    ((inFlight .read false false 1 0).fault.valid = false ∧ (inFlight .read false false 1 0).CanAct 1) := by decide

theorem witness_StepRunsTheCommandWritten :
    State.reset.CanAct 0 ∧ decode (.command 1) = .ok .objinit :=
  ⟨by decide, rfl⟩

theorem witness_StepRunsTheEventDelivered : decode (.event 0b001) = .ok (.master false) := rfl

theorem witness_FetchedTableWordRuns :
    decodeTableWord 32 1 = some .objinit ∧ decodeTableWord 3 3 = some (.pullupEnd false) ∧
    (3 : Nat) ≤ 8 ∧ (8 : Nat) < 32 ∧ State.reset.CanAct 0 ∧ (inFlight .read false false 1 0).CanAct 1 := by
  decide

/-- A READ in flight, a SAMPLE due, whose host has a store waiting. -/
def storeWaiting : State := { inFlight .read true true 1 7 with inputs := [.host 0 (.store 0x100 1)] }

theorem storeWaiting_inv : storeWaiting.Inv := inv_of_control _ (by decide +kernel) (by decide +kernel)

theorem storeWaiting_nothingArrives : storeWaiting.NothingArrives := .inr ⟨_, _, rfl, rfl, rfl⟩

/-- A due SAMPLE behind which a blocked host waits, a MASTER, a PULLUP_END and an idle machine. -/
theorem witness_EnvironmentKeepsItsContract :
    (storeWaiting.NothingArrives ∧ storeWaiting.SampleReady) ∧
    ((inFlight .write false false 1 0).NothingArrives ∧ (inFlight .write false false 1 0).MasterReady) ∧
    (powering.NothingArrives ∧ powering.Answers ∧ powering.pgctl.run = false ∧ powering.put.isSome = true) ∧
    (State.reset.NothingArrives ∧ State.reset.Answers ∧ State.reset.pgctl.run = false ∧ State.reset.put = none ∧
      State.reset.status.waiter = false ∧ State.reset.stuck.hosts = []) :=
  ⟨⟨storeWaiting_nothingArrives, by decide⟩, ⟨.inl rfl, by decide⟩, ⟨.inl rfl, by decide⟩, ⟨.inl rfl, by decide⟩⟩

theorem witness_FaultEntryIsPrecise :
    State.reset.fault.valid = false ∧ answers (exec .start State.reset) (fun t => t.fault.valid) = true := by decide

theorem witness_FaultedMachineTakesNoStep :
    (faulted State.reset).fault.valid = true ∧ (Instr.master false).wellFormed = true ∧
    (faulted State.reset).CanAct 0 ∧
    (faulted State.reset).powersOn = false ∧ answers (step (faulted State.reset)) (fun _ => true) = true ∧
    State.powersOn { faulted State.reset with inputs := [.powerOn] } = true := by decide

theorem witness_CommandLegalityByState :
    ((inFlight .read false false 1 0).fault.valid = false ∧ (inFlight .read false false 1 0).status.waiter = true) ∧
    (∀ d : DriverState, d = .uninit ∨ d = .stop ∨ d = .ready →
      (idleIn d).fault.valid = false ∧ (idleIn d).status.waiter = false ∧ (idleIn d).status.state = d) ∧
    State.configValid (idleIn .stop) 0xF10 = true ∧
    answers (exec .read (started 0x100 0 0 [])) (fun t => t.fault.valid) = true ∧
    answers (exec .crc8 (started 0 1 0 [])) (fun t => t.fault.valid) = true := by
  refine ⟨by decide, ?_, by decide, by decide, by decide⟩
  rintro d (rfl | rfl | rfl) <;> decide

/-- Counts 0 and COUNT_MAX + 1, the null address, DEV_MAX + 1, and 8·max wrapping. -/
theorem witness_OperandChecksInOrder :
    (started 0x100 0 0 []).IssueReady ∧ (started 0x100 0 0 []).status.state = .ready ∧
    (started 0x100 0x10000 0 []).params.countMax < (started 0x100 0x10000 0 []).arg1.toNat ∧
    ((started 0 0xFFFF 0 []).arg1.toNat ≤ (started 0 0xFFFF 0 []).params.countMax ∧
      (started 0 0xFFFF 0 []).validRange 0 0xFFFF = false) ∧
    (started 0x100 256 0 []).params.devMax < (started 0x100 256 0 []).arg1.toNat ∧
    ((started 0xFFFFFFF0 255 0 []).arg1.toNat ≤ (started 0xFFFFFFF0 255 0 []).params.devMax ∧
      (started 0xFFFFFFF0 255 0 []).validRange 0xFFFFFFF0 (8 * 255) = false) := by decide

theorem witness_ValidBytesAreReachedWithdrawnOnesStop :
    (State.reset.validRange 0xFFFFFFFF 1 = true ∧ State.reset.validRange 1 0 = true) ∧
    ((inFlight .read false true 1 7).SampleReady ∧ (inFlight .read false true 1 7).status.op = .read ∧
      State.byteAdmitted { inFlight .read false true 1 7 with memMap := [] } 0x100 = false) ∧
    ((inFlight .write false false 2 7).MasterReady ∧ (inFlight .write false false 2 7).wsrc = .memory ∧
      State.byteAdmitted { inFlight .write false false 2 7 with memMap := [] } 0x101 = false) ∧
    (let s := { passDone true 0xFF 1 with memMap := [{ base := 0x100, size := 15 }] }
     s.MasterReady ∧ s.status.op = .triplet ∧ s.search.phase = .triplet ∧ s.status.finalTimeslot = true ∧
     s.search.result ≠ .error ∧ crc8 ((romBytes s.rom).take 7) = s.rom.extractLsb' 56 8 ∧
     (7 : Nat) < 8 ∧ s.byteAdmitted ((s.rbuf.toNat + 8 * s.search.devicesFound.toNat + 7) % 2 ^ s.params.addrW) = false) ∧
    (let s := { inFlight .read true true 1 7 with stuck := { hosts := [], bsm := true } }
     s.stuck.bsm = true ∧ s.inputs = [] ∧ s.CanAct 1 ∧ State.powersOn { s with inputs := [.powerOn] } = true) := by
  decide +kernel

/-- run = 0; op = NONE while run = 1; op = PULLUP; an open slot with sample_en = 1; sample_en = 0; op = WRITE; no slot. -/
theorem witness_SpuriousEventsFault :
    (State.reset.Answers ∧ State.reset.pgctl.run = false) ∧
    ((inFlight .none false false 1 0).status.op = .none ∧ (inFlight .none false false 1 0).pgctl.run = true) ∧
    powering.status.op = .pullup ∧
    ((inFlight .read false true 1 0).pg.slotOpen = true ∧ (inFlight .read false true 1 0).pgctl.sampleEn = true) ∧
    (inFlight .read false false 1 0).pgctl.sampleEn = false ∧ (inFlight .write false true 1 0).status.op = .write ∧
    (inFlight .read false false 1 0).pg.slotOpen = false ∧ (inFlight .read false false 1 0).status.op ≠ .pullup := by decide

theorem witness_ObjinitSetsEveryField :
    ((inFlight .read false false 1 0).fault.valid = false ∧ (inFlight .read false false 1 0).status.waiter = true) ∧
    ((idleIn .stop).IssueReady ∧ (idleIn .stop).status.state ≠ .uninit) ∧
    (State.reset.IssueReady ∧ State.reset.status.state = .uninit) := by decide

/-- Busy; a wrong state; a word that fails a check (bit 31 set); and a word that passes all six. -/
theorem witness_StartBindsAValidConfiguration :
    (inFlight .read false false 1 0).status.waiter = true ∧ (idleIn .ready).status.state ≠ .stop ∧
    (idleIn .stop).IssueReady ∧ (idleIn .stop).status.state = .stop ∧
    ¬ ((0x80000F10 : Word).extractLsb' 12 20 = 0) ∧
    ((0xF10 : Word).getLsbD 8 = true ∧ (0xF10 : Word).getLsbD 9 = true ∧
      ((0xF10 : Word).extractLsb' 0 4).toNat < (idleIn .stop).params.pgChannels ∧
      ((0xF10 : Word).extractLsb' 4 4).toNat < (idleIn .stop).params.pgChannels ∧
      (0xF10 : Word).extractLsb' 0 4 ≠ (0xF10 : Word).extractLsb' 4 4 ∧
      (0xF10 : Word).getLsbD 10 = (0xF10 : Word).getLsbD 11 ∧ (0xF10 : Word).extractLsb' 12 20 = 0) := by decide

theorem witness_StopReleasesTheGenerator :
    (inFlight .read false false 1 0).status.waiter = true ∧
    (State.reset.IssueReady ∧ State.reset.status.state = .uninit) ∧
    ((idleIn .stop).IssueReady ∧ (idleIn .stop).status.state ≠ .uninit) := by decide

theorem witness_BootReachesReady0 :
    (let s := { State.reset with arg0 := 0xF10 }
     s.IssueReady ∧ s.status.state = .uninit ∧ s.put = none ∧ s.stuck.bsm = false ∧ s.configValid s.arg0 = true) ∧
    (started 0x100 1 0 []).Ready0 ∧
    answers (exec .crc8 (started 0x100 1 0 [])) (fun t => !t.fault.valid) = true := by decide

/-- Each of the five transitions. -/
theorem witness_DriverStateChangesOnlyByItsTransitions :
    answers (exec .objinit State.reset) (fun t => decide (t.status.state ≠ .uninit)) = true ∧
    answers (exec .start { idleIn .stop with arg0 := 0xF10 }) (fun t => decide (t.status.state ≠ .stop)) = true ∧
    answers (exec .stop (started 0 0 0 [])) (fun t => decide (t.status.state ≠ .ready)) = true ∧
    answers (exec (.pullupEnd false) powering) (fun t => decide (t.status.state ≠ .pullUp)) = true ∧
    answers
      (let s := inFlight .write true false 0 0
       exec (.master false) { s with status := { s.status with needPullup := true } })
      (fun t => decide (t.status.state ≠ .ready)) = true := by decide

theorem witness_HostIsResumedOnlyByTheTerminalEvent :
    ((inFlight .reset true false 1 0).Inv ∧ (inFlight .reset true false 1 0).status.waiter = true ∧
      answers (exec (.master false) (inFlight .reset true false 1 0)) (fun t => !t.status.waiter) = true) ∧
    (powering.Inv ∧ powering.status.waiter = true ∧
      answers (exec (.pullupEnd false) powering) (fun t => !t.status.waiter) = true) :=
  ⟨⟨inv_of_control _ (by decide +kernel) (by decide +kernel), rfl, by decide⟩,
    ⟨inv_of_control _ (by decide +kernel) (by decide +kernel), rfl, by decide⟩⟩

/-- A range in the standard start's memory is valid. -/
theorem started_validRange (a n d : Word) (m : Memory) (x len : Nat) (hx : x ≠ 0) (h : x + len ≤ 2 ^ 32) :
    (started a n d m).validRange x len = true :=
  State.validRange_of_region _ x len { base := 0, size := 2 ^ 32 } (List.mem_singleton.mpr rfl)
    (by simpa [Region.covers] using h) hx h

/-- Busy; length COUNT_MAX + 1; a null address; length 0; and length COUNT_MAX in range. -/
theorem witness_Crc8ReturnsTheBufferChecksum :
    (inFlight .read false false 1 0).status.waiter = true ∧
    (started 1 0x10000 0 []).params.countMax < (started 1 0x10000 0 []).arg1.toNat ∧
    (started 0 1 0 []).validRange 0 1 = false ∧ (started 0 0 0 []).IssueReady ∧
    ((started 1 0xFFFF 0 []).arg1.toNat ≤ (started 1 0xFFFF 0 []).params.countMax ∧
      (started 1 0xFFFF 0 []).validRange 1 0xFFFF = true) :=
  ⟨by decide, by decide, by decide, by decide, by decide, started_validRange _ _ _ _ _ _ (by decide) (by decide)⟩

theorem witness_Crc8Laws :
    (romBytes codeT1).length = 8 ∧ [(1 : Byte), 2].length = [(3 : Byte), 4].length ∧ (7 : Nat) < 8 ∧ (0 : Nat) < 8 := by decide

theorem witness_ResetArmsThePresenceSlot :
    (started 0 0 0 []).IssueReady ∧ (started 0 0 0 []).status.state = .ready := by decide

/-- One byte at the top of the address space, and COUNT_MAX bytes. -/
theorem witness_ReadArmsItsFirstSlot :
    (started 0xFFFFFFFF 1 0 []).IssueReady ∧ (started 0xFFFFFFFF 1 0 []).status.state = .ready ∧
    (started 0xFFFFFFFF 1 0 []).params.ok = true ∧ (started 0xFFFFFFFF 1 0 []).validRange 0xFFFFFFFF 1 = true ∧
    (started 1 0xFFFF 0 []).arg1.toNat ≤ (started 1 0xFFFF 0 []).params.countMax ∧
    (started 1 0xFFFF 0 []).validRange 1 0xFFFF = true :=
  ⟨by decide, rfl, by decide, by decide, by decide, started_validRange _ _ _ _ _ _ (by decide) (by decide)⟩

theorem witness_WriteProgramsItsFirstBit :
    (started 0x100 1 5 []).IssueReady ∧ (started 0x100 1 5 []).status.state = .ready ∧
    (started 0x100 1 5 []).params.ok = true ∧ 1 ≤ (started 0x100 1 5 []).arg1.toNat ∧
    (started 0x100 1 5 []).arg1.toNat ≤ (started 0x100 1 5 []).params.countMax ∧
    (started 0x100 1 5 []).validRange 0x100 1 = true := by decide

theorem witness_SearchStartsItsFirstPass :
    (started 0x100 255 0 []).IssueReady ∧ (started 0x100 255 0 []).status.state = .ready ∧
    (started 0x100 255 0 []).params.ok = true ∧ 1 ≤ (started 0x100 255 0 []).arg1.toNat ∧
    (started 0x100 255 0 []).arg1.toNat ≤ (started 0x100 255 0 []).params.devMax ∧
    (started 0x100 255 0 []).validRange 0x100 (8 * 255) = true :=
  ⟨by decide, rfl, by decide, by decide, by decide, started_validRange _ _ _ _ _ _ (by decide) (by decide)⟩

theorem witness_CompleteResumesOrReturnsToSearch :
    State.reset.search.phase = .idle ∧
    (inPass .reset .reset true false SearchReg.powerOn).search.phase ≠ .idle := by decide

theorem witness_MasterInResetSlot :
    ((inFlight .reset false false 1 0).MasterReady ∧ (inFlight .reset false false 1 0).status.finalTimeslot = false) ∧
    ((inFlight .reset true false 1 0).MasterReady ∧ (inFlight .reset true false 1 0).status.finalTimeslot = true ∧
      (inFlight .reset true false 1 0).status.op = .reset ∧ (inFlight .reset true false 1 0).search.phase = .idle) := by decide

theorem witness_SampleInResetSlot :
    (inFlight .reset true true 1 0).SampleReady ∧ (inFlight .reset true true 1 0).status.op = .reset := by decide

/-- The final MASTER; the last bit; bit 7 of an earlier byte; an earlier bit of the last byte. -/
theorem witness_MasterInReadSlot :
    ((inFlight .read true false 0 0).MasterReady ∧ (inFlight .read true false 0 0).status.finalTimeslot = true) ∧
    ((inFlight .read false false 1 7).MasterReady ∧ (inFlight .read false false 1 7).status.op = .read) ∧
    ((inFlight .read false false 2 7).MasterReady ∧ (inFlight .read false false 2 7).status.bytes ≠ 1) ∧
    ((inFlight .read false false 1 6).MasterReady ∧ (inFlight .read false false 1 6).status.bit ≠ 7) := by decide

/-- Bits 6 and 7, the byte admitted. -/
theorem witness_SampleInReadSlot :
    ((inFlight .read false true 1 6).SampleReady ∧ (inFlight .read false true 1 6).status.op = .read) ∧
    ((inFlight .read true true 1 7).SampleReady ∧ (inFlight .read true true 1 7).byteAdmitted 0x100 = true) := by decide

/-- The final MASTER; bytes = 0; an inner bit; the last bit; and the next byte from memory or constant. -/
theorem witness_MasterInWriteSlot :
    ((inFlight .write true false 0 0).MasterReady ∧ (inFlight .write true false 0 0).status.finalTimeslot = true) ∧
    ((inFlight .write false false 0 0).MasterReady ∧ (inFlight .write false false 0 0).status.bytes = 0) ∧
    ((inFlight .write false false 1 6).MasterReady ∧ (inFlight .write false false 1 6).status.bit ≠ 7) ∧
    ((inFlight .write false false 1 7).MasterReady ∧ (inFlight .write false false 1 7).status.op = .write) ∧
    ((inFlight .write false false 2 7).MasterReady ∧ (inFlight .write false false 2 7).wsrc = .memory ∧
      (inFlight .write false false 2 7).byteAdmitted 0x101 = true) ∧
    State.wsrc { inFlight .write false false 2 7 with wsrc := .searchRom } = .searchRom := by decide

theorem witness_FinishWriteStartsThePullup :
    State.reset.status.needPullup = false ∧
    (answers (exec .write (started 0x100 1 5 [])) (fun t => t.status.needPullup)) = true := by decide

theorem witness_PullupEndResumesTheHost : powering.Answers ∧ powering.status.op = .pullup := by decide

/-- Every slot of a triplet, bits 62 and 63, and the final timeslot. -/
theorem witness_MasterInTriplet :
    (inPass .triplet .triplet true false SearchReg.powerOn).MasterReady ∧
    (inPass .triplet .triplet false false { SearchReg.powerOn with bitStep := .slotA }).MasterReady ∧
    (inPass .triplet .triplet false false { SearchReg.powerOn with bitStep := .slotB }).MasterReady ∧
    (inPass .triplet .triplet false false { SearchReg.powerOn with bitStep := .slotW, rombit := 62 }).MasterReady ∧
    (inPass .triplet .triplet false false { SearchReg.powerOn with bitStep := .slotW, rombit := 63 }).MasterReady := by
  decide

theorem witness_SampleInSlotsAAndW :
    (inPass .triplet .triplet false true { SearchReg.powerOn with bitStep := .slotA }).SampleReady ∧
    (inPass .triplet .triplet false true { SearchReg.powerOn with bitStep := .slotW }).SampleReady ∧
    ((inPass .triplet .triplet true true { SearchReg.powerOn with bitStep := .slotW }).SampleReady ∧
      (inPass .triplet .triplet true true { SearchReg.powerOn with bitStep := .slotW }).status.finalTimeslot = true) := by
  decide

/-- A = 0 and A = 1, and the index below, at and above the signed marker. -/
theorem witness_SampleInSlotBChoosesTheBit :
    (inPass .triplet .triplet false true { SearchReg.powerOn with bitStep := .slotB, bitBuf := 0 }).SampleReady ∧
    (inPass .triplet .triplet false true { SearchReg.powerOn with bitStep := .slotB, bitBuf := 1 }).SampleReady ∧
    (((14 : BitVec 6).toNat : Int) < (15 : BitVec 8).toInt ∧ ((15 : BitVec 6).toNat : Int) = (15 : BitVec 8).toInt ∧
      (0xFF : BitVec 8).toInt < ((0 : BitVec 6).toNat : Int)) := by decide

theorem witness_PassGoesFromResetToCommandToTriplets :
    (inPass .reset .reset true false SearchReg.powerOn).MasterReady ∧
    (inPass .reset .reset true false SearchReg.powerOn).status.slavePresent = false ∧
    State.MasterReady
      (let s := inPass .reset .reset true false SearchReg.powerOn
       { s with status := { s.status with slavePresent := true } }) ∧
    ((inPass .write .cmd true false SearchReg.powerOn).MasterReady ∧
      (inPass .write .cmd true false SearchReg.powerOn).status.needPullup = false) := by decide

/-- An aborted pass, and a code whose CRC byte is wrong. -/
theorem witness_FailedPassStoresNothing :
    (inPass .triplet .triplet true false { SearchReg.powerOn with result := .error }).MasterReady ∧
    (inPass .triplet .triplet true false SearchReg.powerOn).MasterReady ∧
    crc8 ((romBytes (codeT1 ^^^ 0x400)).take 7) ≠ (codeT1 ^^^ 0x400).extractLsb' 56 8 := by decide +kernel

/-- One device; an unexplored branch with room for another code; and at capacity. -/
theorem witness_ValidatedCodeIsRecorded :
    ((passDone true 0xFF 0).MasterReady ∧ (passDone true 0xFF 0).search.result ≠ .error ∧
      (passDone true 0xFF 0).status.finalTimeslot = true ∧ (passDone true 0xFF 0).search.phase = .triplet ∧
      crc8 ((romBytes codeT1).take 7) = codeT1.extractLsb' 56 8 ∧ (passDone true 0xFF 0).search.devicesFound < 2 ∧
      (passDone true 0xFF 0).validRange 0x100 (8 * 2) = true ∧ (passDone true 0xFF 0).mem.wf = true ∧
      (passDone true 0xFF 0).search.singleDevice = true) ∧
    ((passDone false 3 0).MasterReady ∧ 0 ≤ (passDone false 3 0).branch.lastZero.toInt ∧
      (passDone false 3 0).search.devicesFound + 1 ≠ (passDone false 3 0).rmax) ∧
    ((passDone false 3 1).MasterReady ∧ (passDone false 3 1).search.devicesFound < (passDone false 3 1).rmax ∧
      (passDone false 3 1).search.devicesFound + 1 = (passDone false 3 1).rmax) := by decide +kernel

theorem witness_RegisterMapIsExact :
    ((based State.reset).params.oweBase.toNat ≤ (0x40000000 : Word).toNat ∧
      (0x4000003F : Word).toNat ≤ (based State.reset).params.oweBase.toNat + 0x3F ∧ (based State.reset).CanAct 0) ∧
    admittedReg 0x38 .word = some .pgctl ∧ admittedReg 0x3C .word = none ∧ admittedReg 0x39 .word = none ∧
    admittedReg 0x38 .half = none ∧ admittedReg 0x38 .wide = none ∧ State.reset.CanAct 0 ∧
    (let s := { State.reset with stuck := { hosts := [0], bsm := false } }
     s.isStuck 0 = true ∧ s.CanAct 1 ∧ s.inputs = [] ∧ s.status.waiter = false ∧ s.stuck.bsm = false ∧
     s.pgctl.run = false ∧
     s.put = none) := by decide

theorem witness_RegisterWriteSemantics :
    (State.reset.fault.valid = false ∧ State.reset.status.waiter = false) ∧ decodeTableWord 32 4 = some .reset ∧
    (inFlight .read false false 1 0).status.waiter = true ∧ (faulted State.reset).fault.valid = true := by decide

/-- Outside the block; the byte owned by a READ in flight, an address no memory admits, and an ordinary access; each kind of owner; and an
accepted READ, WRITE and SEARCH. -/
theorem witness_HostAccessesKeepOutOfOwnedBuffers :
    ((based (inFlight .read false false 1 0)).CanAct 1 ∧
      (0x100 : Word).toNat < (based (inFlight .read false false 1 0)).params.oweBase.toNat ∧
      (based (inFlight .read false false 1 0)).params.oweBase.toNat + 0x3F < (0x40000040 : Word).toNat) ∧
    (inFlight .read false false 1 0).ownsByte 0x100 = true ∧ (inFlight .read false false 1 0).ownsByte 0x101 = false ∧
    (inFlight .read false false 1 0).ownsByte 0xFF = false ∧ (inFlight .read false false 1 0).mem.wf = true ∧
    State.byteAdmitted { State.reset with memMap := [] } 5 = false ∧ State.reset.byteAdmitted 5 = true ∧
    (inFlight .read false false 1 0).CanAct 1 ∧
    (powering.status.waiter = true ∧ powering.search.phase = .idle ∧ powering.ownsByte 0x100 = true) ∧
    ((inFlight .reset false false 1 0).status.waiter = true ∧ (inFlight .reset false false 1 0).status.op = .reset) ∧
    ((inPass .reset .reset true false SearchReg.powerOn).search.phase ≠ .idle ∧
      (inPass .reset .reset true false SearchReg.powerOn).ownsByte 0x10F = true) ∧
    ((started 0x100 1 5 []).IssueReady ∧ (started 0x100 1 5 []).search.phase = .idle ∧
      (started 0x100 1 5 []).params.ok = true) ∧
    answers (exec .read (started 0x100 1 5 [])) (fun t => !t.fault.valid) = true ∧
    answers (exec .write (started 0x100 1 5 [])) (fun t => !t.fault.valid) = true ∧
    answers (exec .search (started 0x100 1 5 [])) (fun t => !t.fault.valid) = true := by decide

/-- A success, a fault recorded, and a host whose program has ended. -/
theorem witness_StatementsExpandToTheirAccesses :
    (State.reset.CanAct 0 ∧ State.reset.EndsWell) ∧ ((faulted State.reset).CanAct 0 ∧ (faulted State.reset).fault.valid = true) ∧
    State.hasHalted { State.reset with halts := [{ host := 3, runEnd := .success }] } 3 = true := by decide

theorem witness_PowerOnResetValues :
    answers (step { inFlight .read false false 1 0 with inputs := [.powerOn] }) (fun t => !t.status.waiter) = true := by decide

theorem witness_CommandsStoreNothing :
    answers (exec .search (started 0x200 4 0 [])) (fun t => !t.fault.valid) = true ∧
    answers (exec (.pullupEnd false) powering) (fun t => !t.fault.valid) = true := by decide

theorem witness_InstructionsKeepOperandsAndConfiguration :
    answers (exec .objinit State.reset) (fun _ => true) = true ∧
    answers (exec .reset (started 0 0 0 [])) (fun _ => true) = true := by decide

/-- A WRITE's slot, an idle-phase final MASTER, and the end of a pass that stores. -/
theorem witness_MasterFrame :
    answers (exec (.master false) (inFlight .write false false 1 0)) (fun _ => true) = true ∧
    answers (exec (.master false) (inFlight .reset true false 1 0)) (fun t => !t.fault.valid) = true ∧
    (inFlight .reset true false 1 0).search.phase = .idle ∧
    answers (exec (.master false) { inPass .triplet .triplet true false SearchReg.powerOn with rom := codeT1 })
      (fun t => !t.fault.valid) = true ∧
    (inPass .triplet .triplet true false SearchReg.powerOn).mem.wf = true := by decide +kernel

theorem witness_SampleFrame :
    answers (exec (.sample true) (inFlight .read true true 1 7)) (fun t => !t.fault.valid) = true ∧
    answers (exec (.sample true) (inFlight .reset true true 1 0)) (fun t => !t.fault.valid) = true ∧
    answers (exec (.sample true) (inPass .triplet .triplet false true SearchReg.powerOn)) (fun t => !t.fault.valid) = true ∧
    (inFlight .read true true 1 7).mem.wf = true := by decide

/-- A READ in flight meets the invariant, and its step goes on. -/
theorem witness_StepKeepsTheInvariant :
    lastBitDue.Inv ∧ answers (step lastBitDue) (fun t => !t.fault.valid) = true :=
  ⟨lastBitDue_inv, by decide +kernel⟩

theorem witness_AcceptedBuffersStayReachable :
    lastBitDue.Inv ∧ lastBitDue.BufferOk ∧ lastBitDue.mapChanges = false ∧
    answers (step lastBitDue) (fun t => decide (t.status.bytes = 0)) = true :=
  ⟨lastBitDue_inv, by decide +kernel, rfl, by decide +kernel⟩

/-- A READ in flight whose last bit arrives, and one whose host has a store waiting. -/
theorem witness_WritesStayInsideTheOwnedBuffer :
    (storeWaiting.Inv ∧ storeWaiting.BufferOk ∧ storeWaiting.hostStores = false) ∧
    lastBitDue.Inv ∧ lastBitDue.BufferOk ∧ lastBitDue.hostStores = false ∧ lastBitDue.ownsByte 0xFF = false ∧
    lastBitDue.ownsByte 0x101 = false ∧ answers (step lastBitDue) (fun t => decide (t.mem ≠ lastBitDue.mem)) = true :=
  ⟨⟨storeWaiting_inv, by decide +kernel, by decide +kernel⟩, lastBitDue_inv, by decide +kernel, rfl,
    by decide +kernel, by decide +kernel, by decide +kernel⟩

theorem witness_BlockedHostIsAlwaysResumed :
    storeWaiting.Inv ∧ storeWaiting.BufferOk ∧ storeWaiting.fault.valid = false ∧ storeWaiting.status.waiter = true ∧
    storeWaiting.NothingArrives :=
  ⟨storeWaiting_inv, by decide +kernel, rfl, rfl, storeWaiting_nothingArrives⟩

theorem witness_ResetReportsPresence : (started 0 0 0 []).Ready0 := by decide

theorem witness_ReadFillsItsBuffer :
    (let s := started 0xFFFFFFFE 2 0 []
     s.Ready0 ∧ s.params.ok = true ∧ s.mem.wf = true ∧ s.arg1.toNat = [(0x05 : Byte), 0xA5].length ∧
     2 ≤ s.params.countMax ∧ s.validRange s.arg0.toNat 2 = true) := by decide +kernel

/-- With and without a pull-up phase to follow. -/
theorem witness_WriteSendsItsBytesLsbFirst :
    (let s := started 0x100 2 0 [(0x100, 0xF0)]
     s.Ready0 ∧ s.params.ok = true ∧ 1 ≤ s.arg1.toNat ∧ s.arg1.toNat ≤ s.params.countMax ∧
     s.validRange s.arg0.toNat s.arg1.toNat = true) ∧
    answers (exec .write (started 0x100 2 0 [(0x100, 0xF0)])) (fun t => !t.status.needPullup) = true ∧
    (started 0x100 2 5 [(0x100, 0xF0)]).Ready0 ∧
    answers (exec .write (started 0x100 2 5 [(0x100, 0xF0)])) (fun t => t.status.needPullup) = true := by decide +kernel

/-- The device T1 of V-SR-1. -/
theorem witness_SingleDeviceIsFound :
    (let s := started 0x100 255 0 []
     s.Ready0 ∧ s.params.ok = true ∧ s.mem.wf = true ∧ 1 ≤ s.arg1.toNat ∧ s.arg1.toNat ≤ s.params.devMax ∧
     s.validRange s.arg0.toNat (8 * s.arg1.toNat) = true) ∧
    crc8 ((romBytes codeT1).take 7) = codeT1.extractLsb' 56 8 :=
  ⟨⟨by decide, by decide, rfl, by decide, by decide, started_validRange _ _ _ _ _ _ (by decide) (by decide)⟩,
    by decide +kernel⟩

end Sys2Proof.Tests
end

section
/-! PROOF. O14: what `Valid` accepts, and what a withdrawn byte of the buffer leaves possible (20_memory.md R87; 93 U5).
Each response that reaches a withdrawn byte is shown to have no step; `State.respond_none` then says that BSM is
stuck. -/

namespace Sys2Proof.Machine

/-! ### Withdrawn bytes: the checked accesses, and the operations that reach them -/

theorem State.memRead_eq_none (s : State) (a : Nat) : s.memRead a = none ↔ s.byteAdmitted a = false := by
  simp [State.memRead]

theorem State.memWrite_eq_none (s : State) (a : Nat) (v : Byte) :
    s.memWrite a v = none ↔ s.byteAdmitted a = false := by
  simp [State.memWrite]

/-- `Valid` says that every byte of the range is reached by a checked read (00_scope.md R6, 20_memory.md R87). -/
theorem State.validRange_iff_memRead (s : State) (a len : Nat) :
    s.validRange a len = true ↔
      a ≠ 0 ∧ a + len ≤ 2 ^ s.params.addrW ∧ ∀ k < len, s.memRead (a + k) = some (s.mem.read (a + k)) := by
  simp [State.validRange_iff, State.memRead_eq_some]

/-- A READ's whole byte cannot be stored at a withdrawn cursor. -/
theorem State.storeReadByte_withdrawn (s : State) (h : s.byteAdmitted s.cursor.toNat = false) :
    s.storeReadByte = none := by
  simp [State.storeReadByte, (s.memWrite_eq_none _ s.acc).2 h]

/-- AdvW has no step where the next byte is to be fetched from memory and was withdrawn. -/
theorem State.advW_withdrawn (s : State) (h7 : s.status.bit = 7) (h1 : s.status.bytes ≠ 1) (hm : s.wsrc = .memory)
    (h : s.byteAdmitted s.nextCursor.toNat = false) : s.advW = none := by
  have hb : s.byteAt s.nextCursor.toNat = none := by simpa [State.byteAt, hm] using (s.memRead_eq_none _).2 h
  rcases s.advW_cases with ⟨hne, -⟩ | ⟨-, heq, -⟩ | ⟨-, -, b, hsome, -⟩ | ⟨-, -, -, hnone⟩
  · exact absurd h7 hne
  · exact absurd heq h1
  · simp [hb] at hsome
  · exact hnone

theorem romCrcOk_iff (rom : BitVec 64) :
    romCrcOk rom = true ↔ crc8 ((romBytes rom).take 7) = rom.extractLsb' 56 8 := by
  simp [romCrcOk, romByte]

/-- A pass ends without ERROR exactly where it was not aborted and its code's CRC is right (42_search_rom.md R220). -/
theorem passResult_ne_error_iff (r : PassResult) (rom : BitVec 64) (single : Bool) (lz : BitVec 8) :
    passResult r rom single lz ≠ .error ↔ r ≠ .error ∧ romCrcOk rom = true := by
  unfold passResult
  split_ifs <;> simp_all

/-- A code cannot be recorded where one of its eight bytes was withdrawn (42_search_rom.md R221). -/
theorem State.srcRecord_withdrawn (s : State) (j : Nat) (hj : j < 8)
    (h : s.byteAdmitted ((s.rbuf.toNat + 8 * s.search.devicesFound.toNat + j) % 2 ^ s.params.addrW) = false) :
    s.srcRecord = none := by
  have hw := State.writeBytes_withdrawn (romBytes s.rom) s
    (s.addrAdd s.rbuf.toNat (8 * s.search.devicesFound.toNat)) j (by simpa [romBytes_length] using hj)
    (Nat.mod_lt _ (Nat.two_pow_pos _)) (by simpa [State.addrAdd] using h)
  simp [State.srcRecord, hw]

/-- The end of a pass that records a code has no step where one of the code's bytes was withdrawn. -/
theorem State.srcAfterPass_withdrawn (s : State) (j : Nat) (hr : s.search.result ≠ .error) (hj : j < 8)
    (h : s.byteAdmitted ((s.rbuf.toNat + 8 * s.search.devicesFound.toNat + j) % 2 ^ s.params.addrW) = false) :
    s.srcAfterPass = none := by
  simp [State.srcAfterPass, hr, s.srcRecord_withdrawn j hj h]

/-! ### The three responses that reach a withdrawn byte -/

/-- 41_bit_io.md R162: the SAMPLE that completes a READ's byte, at a withdrawn cursor. -/
theorem State.sampleRead_withdrawn (s : State) (pin : Bool) (h7 : s.status.bit = 7)
    (h : s.byteAdmitted s.cursor.toNat = false) : s.sampleRead pin = none := by
  simp only [State.sampleRead, h7, if_true]
  exact State.storeReadByte_withdrawn _ h

/-- 41_bit_io.md R165: the MASTER that uses up a WRITE's byte, before a withdrawn one. -/
theorem State.masterWrite_withdrawn (s : State) (hf : s.status.finalTimeslot = false) (h0 : s.status.bytes ≠ 0)
    (h1 : s.status.bytes ≠ 1) (h7 : s.status.bit = 7) (hm : s.wsrc = .memory)
    (h : s.byteAdmitted s.nextCursor.toNat = false) : s.masterWrite = none := by
  simp only [State.masterWrite, hf, h0, if_false, Bool.false_eq_true]
  exact State.advW_withdrawn _ h7 h1 hm h

/-- 42_search_rom.md R211, R221: the MASTER that ends a pass, whose code has a withdrawn byte to land in. -/
theorem State.masterTriplet_withdrawn (s : State) (j : Nat) (hp : s.search.phase = .triplet)
    (hf : s.status.finalTimeslot = true) (hr : s.search.result ≠ .error) (hc : romCrcOk s.rom = true) (hj : j < 8)
    (h : s.byteAdmitted ((s.rbuf.toNat + 8 * s.search.devicesFound.toNat + j) % 2 ^ s.params.addrW) = false) :
    s.masterTriplet = none := by
  simp only [State.masterTriplet, hf, if_true, State.complete, State.stopPg_search, hp, State.srcSubDone, reduceCtorEq,
    if_false]
  exact State.srcAfterPass_withdrawn _ j ((passResult_ne_error_iff _ _ _ _).2 ⟨hr, hc⟩) hj h

/-! ### A stuck BSM -/

theorem State.ignoresEvents_of_stuck (s : State) (h : s.stuck.bsm = true) : s.ignoresEvents = true := by
  simp [State.ignoresEvents, h]

/-- With BSM stuck and nothing to arrive no agent can move: the machine stops (93 U5; log 9). -/
theorem step_of_stuck_of_noInputs (s : State) (h : s.stuck.bsm = true) (hi : s.inputs = []) :
    step s = .fault .byteWithdrawn := by
  have ha : s.arrival = none := by simp [State.arrival, State.firstFree, hi]
  simp [step, State.advance, ha, State.environmentMoves, s.ignoresEvents_of_stuck h, State.quiet, h]

/-- The input that arrives is delivered, in the state without it. -/
theorem step_of_arrival (s : State) (i : Input) (rest : List Input) (h : s.arrival = some (i, rest)) :
    step s = State.deliver { s with inputs := rest } i := by
  simp [step, State.advance, h]

theorem State.powersOn_iff (s : State) :
    s.powersOn = true ↔ ∃ rest, s.arrival = some (.powerOn, rest) := by
  unfold State.powersOn
  split <;> simp_all

/-- The step that takes a power-on reset resets the machine (70_reset_and_hazards.md R300). -/
theorem step_of_powersOn (s : State) (h : s.powersOn = true) :
    ∃ rest, step s = .next (State.powerOn { s with inputs := rest }) := by
  obtain ⟨rest, ha⟩ := s.powersOn_iff.1 h
  exact ⟨rest, step_of_arrival s _ rest ha⟩

/-- Settles O14: each of the three responses has no step where it reaches a withdrawn byte, and a stuck BSM ignores
every event, leaves the hosts their steps, and has a step again after a power-on reset (log 31). -/
theorem validBytesAreReachedWithdrawnOnesStop : Obligations.ValidBytesAreReachedWithdrawnOnesStop := by
  refine ⟨State.validRange_iff_memRead, ?sampleRead, ?masterWrite, ?masterTriplet, ?stuck⟩
  case sampleRead =>
    intro s pin hs hop h7 hn
    calc exec (.sample pin) s
      _ = s.respond (s.closeSlot.sampleRead pin) := by rw [exec_sample_of_ready s pin hs, hop]
      _ = .next s.stickBsm := by rw [s.closeSlot.sampleRead_withdrawn pin h7 hn, State.respond_none]
  case masterWrite =>
    intro s hs hop hf h0 h1 h7 hm hn
    calc exec (.master false) s
      _ = s.respond s.latchSlot.masterWrite := by rw [exec_master_of_ready s hs, hop]
      _ = .next s.stickBsm := by rw [s.latchSlot.masterWrite_withdrawn hf h0 h1 h7 hm hn, State.respond_none]
  case masterTriplet =>
    rintro s hs hop hp hf hr hc ⟨j, hj, hn⟩
    calc exec (.master false) s
      _ = s.respond s.latchSlot.masterTriplet := by rw [exec_master_of_ready s hs, hop]
      _ = .next s.stickBsm := by
        rw [s.latchSlot.masterTriplet_withdrawn j hp hf hr ((romCrcOk_iff _).2 hc) hj hn, State.respond_none]
  case stuck =>
    intro s hs
    obtain ⟨hmaster, hsample, hpullup⟩ := exec_event_of_ignored s (s.ignoresEvents_of_stuck hs)
    refine ⟨hmaster, hsample, hpullup, step_of_stuck_of_noInputs s hs,
      fun who act rest hi => (step_host s who act rest hi).1, fun hp => ?_⟩
    obtain ⟨rest, hstep⟩ := step_of_powersOn s hp
    exact ⟨_, hstep, rfl⟩

end Sys2Proof.Machine
end

section
/-! PROOF. What an instruction can do, said once (`exec_goesOn`), and the frame of the operations it is made of
(10_state.md R31, R40, R44, R46). -/

namespace Sys2Proof.Machine

/-! ### The frame, as one projection of the state -/

/-- What no response of BSM or SRC writes but where it says so: the operands and parameters, the agents around OWE, the
model's own fields, and the registers FAULT, CONFIG, STATUS.state and STATUS.waiter. -/
structure Frame where
  params : Params
  arg0 : Word
  arg1 : Word
  arg2 : Word
  memMap : List Region
  stuck : StuckAgents
  caller : HostId
  halts : List Halt
  inputs : List Input
  draws : Nat
  readData : Word
  fault : FaultReg
  config : BitVec 13
  driver : DriverState
  waiter : Bool

/-- The frame of a state. -/
def State.frame (s : State) : Frame where
  params := s.params
  arg0 := s.arg0
  arg1 := s.arg1
  arg2 := s.arg2
  memMap := s.memMap
  stuck := s.stuck
  caller := s.caller
  halts := s.halts
  inputs := s.inputs
  draws := s.draws
  readData := s.readData
  fault := s.fault
  config := s.config
  driver := s.status.state
  waiter := s.status.waiter

section
variable (s : State)

@[simp] theorem State.stopPg_frame : s.stopPg.frame = s.frame := rfl
@[simp] theorem State.latchSlot_frame : s.latchSlot.frame = s.frame := rfl
@[simp] theorem State.closeSlot_frame : s.closeSlot.frame = s.frame := rfl
@[simp] theorem State.enterFinal_frame : s.enterFinal.frame = s.frame := rfl
@[simp] theorem State.setNextLow_frame (k : LowPulse) : (s.setNextLow k).frame = s.frame := rfl
@[simp] theorem State.arm_frame (k : BsmOp) (p ss se : Bool) (low : LowPulse) :
    (s.arm k p ss se low).frame = s.frame := rfl
@[simp] theorem State.armReset_frame : s.armReset.frame = s.frame := rfl
@[simp] theorem State.srcPassStart_frame : s.srcPassStart.frame = s.frame := rfl
@[simp] theorem State.srcArmTriplets_frame : s.srcArmTriplets.frame = s.frame := rfl
@[simp] theorem State.srcFinish_frame : s.srcFinish.frame = { s.frame with waiter := false } := rfl
@[simp] theorem State.resume_frame (v : Word) : (s.resume v).frame = { s.frame with waiter := false } := rfl
@[simp] theorem State.block_frame : s.block.frame = { s.frame with waiter := true } := rfl

end

theorem State.advW_frame {s t : State} (h : s.advW = some t) : t.frame = s.frame := by
  rcases s.advW_cases with ⟨-, ha⟩ | ⟨-, -, ha⟩ | ⟨-, -, b, -, ha⟩ | ⟨-, -, -, ha⟩ <;>
    simp only [ha, Option.some.injEq, reduceCtorEq] at h <;> subst h <;> rfl

/-- The armed WRITE: at bit 0 AdvW moves the bit index only, so the byte after it is not fetched. -/
theorem State.armWrite_eq (s : State) (n : BitVec 16) (first : Byte) :
    s.armWrite n first = some (State.arm { s with
      status := { s.status with bytes := n, bit := 1 }
      wbyte := first } .write false false false (lowW (first.getLsbD 0))) :=
  State.advW_within _ (by simp)

/-- A WRITE accepted with first byte `b` (41_bit_io.md R168). -/
def State.writeAccepted (s : State) (b : Byte) : State :=
  State.arm { s.block with
    cursor := s.arg0
    wsrc := .memory
    puTime := s.durationOperand
    status := { s.block.status with
      needPullup := s.needPullupFor s.durationOperand, bytes := BitVec.ofNat 16 s.countOperand, bit := 1 }
    wbyte := b } .write false false false (lowW (b.getLsbD 0))

/-- Where host memory admits the first byte, a WRITE is accepted. -/
theorem State.acceptWrite_eq {s : State} {b : Byte} (h : s.memRead s.addrOperand = some b) :
    s.acceptWrite = some (s.writeAccepted b) := by
  simp only [State.acceptWrite, h, State.armWrite_eq]
  rfl

theorem State.sampleTriplet_frame (s : State) (pin : Bool) : (s.sampleTriplet pin).frame = s.frame := by
  unfold State.sampleTriplet
  cases s.search.bitStep with
  | slotA => rfl
  | slotB =>
    simp only [State.sampleSlotB]
    split <;> rfl
  | slotW =>
    simp only [State.sampleSlotW]
    split_ifs <;> rfl

theorem State.sampleRead_frame {s t : State} {pin : Bool} (h : s.sampleRead pin = some t) : t.frame = s.frame := by
  unfold State.sampleRead at h
  split_ifs at h with h7
  · obtain ⟨-, rfl⟩ := (State.storeReadByte_eq_some _ _).1 h
    rfl
  · cases h
    rfl

/-! ### The end of an operation (41_bit_io.md R157; 42_search_rom.md R201) -/

/-- What the end of an operation hands on: the frame stays, or it stays but for the host, which is resumed, and then
nothing is in flight any more. -/
def State.HandsOn (s t : State) : Prop :=
  t.frame = s.frame ∨ t.frame = { s.frame with waiter := false } ∧ t.search.phase = .idle ∧ t.status.op = .none

theorem State.srcFinish_handsOn (s : State) (h : s.status.op = .none) : s.HandsOn s.srcFinish :=
  .inr ⟨rfl, rfl, h⟩

theorem State.srcNextPass_handsOn (s : State) (h : s.status.op = .none) : s.HandsOn s.srcNextPass := by
  unfold State.srcNextPass
  split_ifs
  · exact State.srcFinish_handsOn { s with search := { s.search with result := .error } } h
  · exact .inl rfl

/-- The capacity check keeps the frame, but that it can resume the host. -/
theorem State.srcNextPass_frame (s : State) : ∃ w, s.srcNextPass.frame = { s.frame with waiter := w } := by
  unfold State.srcNextPass
  split_ifs
  · exact ⟨_, rfl⟩
  · exact ⟨_, rfl⟩

theorem State.srcAfterPass_handsOn {s t : State} (hop : s.status.op = .none) (h : s.srcAfterPass = some t) :
    s.HandsOn t := by
  rcases s.srcAfterPass_cases with ⟨-, ha⟩ | ⟨-, -, ha⟩ | ⟨-, u, hu, ha⟩ | ⟨-, u, hu, ha⟩ <;> rw [ha] at h <;> cases h
  · exact s.srcFinish_handsOn hop
  · rw [(State.srcRecord_frame s u hu).1]
    exact .inr ⟨rfl, rfl, hop⟩
  · rw [(State.srcRecord_frame s u hu).1]
    exact State.srcNextPass_handsOn _ hop

theorem State.srcSubDone_handsOn {s t : State} {v : Word} (hop : s.status.op = .none)
    (h : s.srcSubDone v = some t) : s.HandsOn t := by
  unfold State.srcSubDone at h
  cases hp : s.search.phase with
  | idle => simp only [hp, Option.some.injEq] at h; exact .inl (h ▸ rfl)
  | reset =>
    simp only [hp] at h
    split_ifs at h
    · exact State.srcAfterPass_handsOn (s := { s with search := { s.search with result := .error } }) hop h
    · rw [State.srcSendSearchCmd, State.armWrite_eq] at h
      cases h
      exact .inl rfl
  | cmd =>
    simp only [hp, Option.some.injEq] at h
    subst h
    exact .inl rfl
  | triplet =>
    simp only [hp] at h
    exact State.srcAfterPass_handsOn (s := s.srcEndPass) hop h

/-- The operation in flight is over and PG has stopped; who takes the result is still open (R157). -/
def State.endOp (s : State) : State := { s.stopPg with status := { s.status with op := .none } }

theorem State.complete_eq (s : State) (v : Word) :
    s.complete v = if s.search.phase = .idle then some (s.endOp.resume v) else s.endOp.srcSubDone v := rfl

/-- What Complete can do (R157): the next part of a SEARCH is armed, or the host is resumed. -/
theorem State.complete_handsOn {s t : State} {v : Word} (h : s.complete v = some t) : s.HandsOn t := by
  rw [State.complete_eq] at h
  split_ifs at h with hp
  · cases h
    exact .inr ⟨rfl, hp, rfl⟩
  · exact State.srcSubDone_handsOn (s := s.endOp) rfl h

/-! ### What an instruction can do -/

/-- The response to a MASTER, by the operation in flight (41_bit_io.md R155). -/
inductive State.AnswersMaster (s : State) : Option State → Prop where
  | reset (hop : s.status.op = .reset) : s.AnswersMaster s.masterReset
  | read (hop : s.status.op = .read) : s.AnswersMaster s.masterRead
  | write (hop : s.status.op = .write) : s.AnswersMaster s.masterWrite
  | triplet (hop : s.status.op = .triplet) : s.AnswersMaster s.masterTriplet

/-- The response to a SAMPLE, by the operation in flight (41_bit_io.md R155). -/
inductive State.AnswersSample (s : State) (pin : Bool) : Option State → Prop where
  | reset (hop : s.status.op = .reset) : s.AnswersSample pin (some (s.sampleReset pin))
  | read (hop : s.status.op = .read) : s.AnswersSample pin (s.sampleRead pin)
  | triplet (hop : s.status.op = .triplet) : s.AnswersSample pin (some (s.sampleTriplet pin))

/-- `s.Runs i r`: `i` passes its checks in `s`, and `r` is the response that it runs where no fault is recorded; none where
it reaches a withdrawn byte. -/
inductive State.Runs (s : State) : Instr → Option State → Prop where
  | objinit (hw : s.status.waiter = false) (hs : s.status.state = .uninit) : s.Runs .objinit (some s.objinit)
  | start (hw : s.status.waiter = false) (hs : s.status.state = .stop) (hc : s.configValid s.arg0 = true) :
    s.Runs .start (some { s.idlePg with
      config := boundConfig s.arg0, status := { s.status with state := .ready }, result := 0 })
  | stop (hw : s.status.waiter = false) (hs : s.status.state ≠ .uninit) :
    s.Runs .stop (some { s.idlePg with config := 0, status := { s.status with state := .stop }, result := 0 })
  | reset (hw : s.status.waiter = false) (hs : s.status.state = .ready) : s.Runs .reset (some s.block.armReset)
  | read (hw : s.status.waiter = false) (hs : s.status.state = .ready) (hc : s.countBad = false)
    (hv : s.validRange s.addrOperand s.countOperand = true) : s.Runs .read (some s.acceptRead)
  | write (hw : s.status.waiter = false) (hs : s.status.state = .ready) (hc : s.countBad = false)
    (hv : s.validRange s.addrOperand s.countOperand = true) (b : Byte) (hb : s.memRead s.addrOperand = some b) :
    s.Runs .write (some (s.writeAccepted b))
  | search (hw : s.status.waiter = false) (hs : s.status.state = .ready) (hc : s.maxBad = false)
    (hv : s.validRange s.addrOperand (8 * s.countOperand) = true) : s.Runs .search (some s.searchInit.srcNextPass)
  | crc8 (hw : s.status.waiter = false) (bs : List Byte) (hb : s.readBytes s.addrOperand s.countOperand = some bs) :
    s.Runs .crc8 (some { s with result := (Machine.crc8 bs).setWidth 32 })
  | master {r : Option State} (h : s.MasterReady) (hr : s.latchSlot.AnswersMaster r) : s.Runs (.master false) r
  | sample {r : Option State} (pin : Bool) (h : s.SampleReady) (hr : s.closeSlot.AnswersSample pin r) :
    s.Runs (.sample pin) r
  | pullupEnd (h : s.Answers) (hop : s.status.op = .pullup) : s.Runs (.pullupEnd false) (some s.endPullup)

/-- The three ways an instruction goes on: it changes nothing, it records a fault, or its response runs. -/
def State.GoesOn (s : State) (i : Instr) (t : State) : Prop :=
  t = s ∨ (∃ c info, t = s.raiseFault c info) ∨ s.fault.valid = false ∧ ∃ r, s.Runs i r ∧ s.respond r = .next t

theorem State.goesOn_self (s : State) (i : Instr) {t : State} (h : Host.Outcome.next s = (.next t : Result)) :
    s.GoesOn i t := by
  cases h
  exact .inl rfl

theorem State.goesOn_spurious (s : State) (i : Instr) {code : Byte} {t : State} (h : s.spurious code = .next t) :
    s.GoesOn i t := by
  cases h
  exact .inr (.inl ⟨_, _, rfl⟩)

/-- A command goes on where its acceptance, reached with no check failed, is a response it runs. -/
theorem State.issue_goesOn {s t : State} {i : Instr} {info : Byte} {checks : List (Bool × FaultCause)} {acc : Result}
    (h : s.issue info checks acc = .next t)
    (hacc : (∀ p ∈ checks, p.1 = false) → ∃ r, s.Runs i r ∧ s.respond r = acc) : s.GoesOn i t := by
  rcases s.issue_cases info checks acc with ⟨-, hi⟩ | ⟨-, c, -, hi⟩ | ⟨hv, hc, hi⟩ <;> rw [hi] at h
  · exact s.goesOn_self i h
  · cases h
    exact .inr (.inl ⟨c, info, rfl⟩)
  · obtain ⟨r, hr, ha⟩ := hacc ((firstCause_eq_none checks).1 hc)
    exact .inr (.inr ⟨hv, r, hr, ha.trans h⟩)

theorem execMaster_goesOn {s t : State} {pin : Bool} (h : execMaster pin s = .next t) : s.GoesOn (.master pin) t := by
  cases pin with
  | true => simp [execMaster] at h
  | false =>
    by_cases hi : s.ignoresEvents = true
    · simp only [execMaster, hi, if_true, Bool.false_eq_true, if_false] at h
      exact s.goesOn_self _ h
    · by_cases hd : s.masterDue = true
      · have hr : s.MasterReady := by
          simpa [State.ignoresEvents, State.masterDue, State.MasterReady, State.Answers] using And.intro hi hd
        replace h := (exec_master_of_ready s hr).symm.trans h
        have run : ∀ r, s.latchSlot.AnswersMaster r → s.respond r = .next t → s.GoesOn (.master false) t :=
          fun r ha h => .inr (.inr ⟨hr.1.1, r, .master hr ha, h⟩)
        cases hop : s.status.op <;> simp only [hop] at h
        · exact s.goesOn_spurious _ h
        · exact run _ (.reset hop) h
        · exact run _ (.read hop) h
        · exact run _ (.write hop) h
        · exact run _ (.triplet hop) h
        · exact s.goesOn_spurious _ h
      · simp only [execMaster, hi, hd, Bool.false_eq_true, if_false, Bool.not_false, if_true] at h
        exact s.goesOn_spurious _ h

theorem execSample_goesOn {s t : State} {pin : Bool} (h : execSample pin s = .next t) : s.GoesOn (.sample pin) t := by
  by_cases hi : s.ignoresEvents = true
  · simp only [execSample, hi, if_true] at h
    exact s.goesOn_self _ h
  · by_cases hd : s.sampleDue = true
    · have hr : s.SampleReady := by
        simpa [State.ignoresEvents, State.sampleDue, State.SampleReady, State.Answers, and_assoc] using And.intro hi hd
      replace h := (exec_sample_of_ready s pin hr).symm.trans h
      have run : ∀ r, s.closeSlot.AnswersSample pin r → s.respond r = .next t → s.GoesOn (.sample pin) t :=
        fun r ha h => .inr (.inr ⟨hr.1.1, r, .sample pin hr ha, h⟩)
      cases hop : s.status.op <;> simp only [hop] at h
      · exact s.goesOn_spurious _ h
      · exact run _ (.reset hop) h
      · exact run _ (.read hop) h
      · exact s.goesOn_spurious _ h
      · exact run _ (.triplet hop) h
      · exact s.goesOn_spurious _ h
    · simp only [execSample, hi, hd, Bool.false_eq_true, if_false, Bool.not_false, if_true] at h
      exact s.goesOn_spurious _ h

theorem execPullupEnd_goesOn {s t : State} {pin : Bool} (h : execPullupEnd pin s = .next t) :
    s.GoesOn (.pullupEnd pin) t := by
  cases pin with
  | true => simp [execPullupEnd] at h
  | false =>
    by_cases hi : s.ignoresEvents = true
    · simp only [execPullupEnd, hi, if_true, Bool.false_eq_true, if_false] at h
      exact s.goesOn_self _ h
    · have ha : s.Answers := by simpa [State.ignoresEvents, State.Answers] using hi
      simp only [execPullupEnd, hi, Bool.false_eq_true, if_false] at h
      cases hop : s.status.op <;> simp only [hop] at h
      case pullup => exact .inr (.inr ⟨ha.1, _, .pullupEnd ha hop, h⟩)
      all_goals exact s.goesOn_spurious _ h

theorem State.memRead_of_countOk {s : State} (hc : s.countBad = false)
    (hv : s.validRange s.addrOperand s.countOperand = true) :
    s.memRead s.addrOperand = some (s.mem.read s.addrOperand) := by
  simp only [State.countBad, Bool.or_eq_false_iff, decide_eq_false_iff_not] at hc
  simpa using ((s.validRange_iff_memRead _ _).1 hv).2.2 0 (by omega)

/-- CRC8's checks admit every byte it reads: an empty buffer has none. -/
theorem State.readBytes_of_lengthOk {s : State}
    (hv : (decide (s.countOperand > 0) && !s.validRange s.addrOperand s.countOperand) = false) :
    ∃ bs, s.readBytes s.addrOperand s.countOperand = some bs := by
  cases hn : s.countOperand with
  | zero => exact ⟨[], rfl⟩
  | succ n =>
    rw [hn] at hv
    exact ⟨_, State.readBytes_of_validRange _ _ _ (by simpa using hv)⟩

/-- What an instruction can do, in every state. -/
theorem exec_goesOn {i : Instr} {s t : State} (h : exec i s = .next t) : s.GoesOn i t := by
  cases i with
  | objinit =>
    refine State.issue_goesOn h fun hc => ⟨_, .objinit ?_ ?_, rfl⟩ <;> simp_all [State.stateIsNot]
  | start =>
    refine State.issue_goesOn h fun hc => ⟨_, .start ?_ ?_ ?_, rfl⟩ <;> simp_all [State.stateIsNot]
  | stop =>
    refine State.issue_goesOn h fun hc => ⟨_, .stop ?_ ?_, rfl⟩ <;> simp_all
  | reset =>
    refine State.issue_goesOn h fun hc => ⟨_, .reset ?_ ?_, rfl⟩ <;> simp_all [State.stateIsNot]
  | read =>
    refine State.issue_goesOn h fun hc => ⟨_, .read ?_ ?_ ?_ ?_, rfl⟩ <;> simp_all [State.stateIsNot]
  | write =>
    refine State.issue_goesOn h fun hc => ?_
    simp only [List.mem_cons, List.not_mem_nil, or_false, forall_eq_or_imp, forall_eq, State.stateIsNot,
      decide_eq_false_iff_not, not_not, Bool.not_eq_false'] at hc
    obtain ⟨hw, hs, hcount, hv⟩ := hc
    have hb := State.memRead_of_countOk hcount hv
    exact ⟨_, .write hw hs hcount hv _ hb, by rw [State.acceptWrite_eq hb]⟩
  | search =>
    refine State.issue_goesOn h fun hc => ⟨_, .search ?_ ?_ ?_ ?_, rfl⟩ <;> simp_all [State.stateIsNot]
  | crc8 =>
    refine State.issue_goesOn h fun hc => ?_
    simp only [List.mem_cons, List.not_mem_nil, or_false, forall_eq_or_imp, forall_eq] at hc
    obtain ⟨hw, -, hv⟩ := hc
    obtain ⟨bs, hb⟩ := State.readBytes_of_lengthOk hv
    exact ⟨_, .crc8 hw bs hb, by rw [hb]; rfl⟩
  | master pin => exact execMaster_goesOn h
  | sample pin => exact execSample_goesOn h
  | pullupEnd pin => exact execPullupEnd_goesOn h

end Sys2Proof.Machine
end

section
/-! PROOF. O49: the frame of every instruction. -/

namespace Sys2Proof.Machine

/-! ### The responses to MASTER -/

/-- What a MASTER's response leaves: the frame; in the final timeslot what the end of an operation hands on; or the strong
pull-up phase, where a WRITE has one. -/
def State.MasterLeaves (s t : State) : Prop :=
  t.frame = s.frame ∨ s.status.finalTimeslot = true ∧ s.HandsOn t ∨
    s.status.op = .write ∧ s.status.finalTimeslot = true ∧ s.status.needPullup = true ∧ t = s.startPullup

theorem State.masterReset_leaves {s t : State} (h : s.masterReset = some t) : s.MasterLeaves t := by
  unfold State.masterReset at h
  split_ifs at h with hf
  · exact .inr (.inl ⟨hf, State.complete_handsOn h⟩)
  · cases h
    exact .inl rfl

theorem State.masterRead_leaves {s t : State} (h : s.masterRead = some t) : s.MasterLeaves t := by
  unfold State.masterRead at h
  split_ifs at h with hf
  · exact .inr (.inl ⟨hf, State.complete_handsOn h⟩)
  all_goals
    cases h
    exact .inl rfl

theorem State.masterWrite_leaves {s t : State} (hop : s.status.op = .write) (h : s.masterWrite = some t) :
    s.MasterLeaves t := by
  unfold State.masterWrite State.finishWrite at h
  split_ifs at h with hf hp
  · cases h
    exact .inr (.inr ⟨hop, hf, hp, rfl⟩)
  · exact .inr (.inl ⟨hf, State.complete_handsOn h⟩)
  · cases h
    exact .inl rfl
  · exact .inl ((State.advW_frame h).trans (s.setNextLow_frame _))

theorem State.masterTriplet_leaves {s t : State} (h : s.masterTriplet = some t) : s.MasterLeaves t := by
  by_cases hf : s.status.finalTimeslot = true
  · rw [State.masterTriplet, if_pos hf] at h
    exact .inr (.inl ⟨hf, State.complete_handsOn h⟩)
  · rw [State.masterTriplet, if_neg hf] at h
    cases hb : s.search.bitStep <;> simp only [hb] at h
    case slotW => split_ifs at h <;> cases h <;> exact .inl rfl
    all_goals
      cases h
      exact .inl rfl

/-- What every response to MASTER leaves, whichever operation is in flight. -/
theorem State.AnswersMaster.leaves {s t : State} {r : Option State} (h : s.AnswersMaster r) (hr : r = some t) :
    s.MasterLeaves t := by
  cases h with
  | reset => exact State.masterReset_leaves hr
  | read => exact State.masterRead_leaves hr
  | write hop => exact State.masterWrite_leaves hop hr
  | triplet => exact State.masterTriplet_leaves hr

theorem State.AnswersSample.frame_eq {s t : State} {pin : Bool} {r : Option State} (h : s.AnswersSample pin r)
    (hr : r = some t) : t.frame = s.frame := by
  cases h with
  | reset => cases hr; rfl
  | read => exact State.sampleRead_frame hr
  | triplet => cases hr; exact s.sampleTriplet_frame pin

/-! ### Every instruction -/

theorem State.HandsOn.frame_eq {s t : State} (h : s.HandsOn t) : ∃ w, t.frame = { s.frame with waiter := w } := by
  rcases h with h | ⟨h, -, -⟩
  · exact ⟨s.status.waiter, h⟩
  · exact ⟨false, h⟩

theorem State.MasterLeaves.frame_eq {s t : State} (h : s.MasterLeaves t) :
    ∃ d w, t.frame = { s.frame with driver := d, waiter := w } := by
  rcases h with h | ⟨-, h⟩ | ⟨-, -, -, rfl⟩
  · exact ⟨s.status.state, s.status.waiter, h⟩
  · obtain ⟨w, hw⟩ := h.frame_eq
    exact ⟨s.status.state, w, hw⟩
  · exact ⟨.pullUp, s.status.waiter, rfl⟩

/-- The lifecycle commands are the only instructions that write CONFIG (10_state.md R44). -/
def Instr.writesConfig (i : Instr) : Prop := i = .objinit ∨ i = .start ∨ i = .stop

/-- A response keeps the frame but for CONFIG, STATUS.state and STATUS.waiter. -/
theorem State.Runs.frame_eq {s t : State} {i : Instr} {r : Option State} (h : s.Runs i r) (hr : r = some t) :
    ∃ c d w, t.frame = { s.frame with config := c, driver := d, waiter := w } ∧
      (¬ Instr.writesConfig i → c = s.config) := by
  cases h with
  | objinit => cases hr; exact ⟨_, _, _, rfl, fun hn => absurd (.inl rfl) hn⟩
  | start => cases hr; exact ⟨_, _, _, rfl, fun hn => absurd (.inr (.inl rfl)) hn⟩
  | stop => cases hr; exact ⟨_, _, _, rfl, fun hn => absurd (.inr (.inr rfl)) hn⟩
  | reset => cases hr; exact ⟨s.config, _, _, rfl, fun _ => rfl⟩
  | read => cases hr; exact ⟨s.config, _, _, rfl, fun _ => rfl⟩
  | write => cases hr; exact ⟨s.config, _, _, rfl, fun _ => rfl⟩
  | crc8 => cases hr; exact ⟨s.config, _, _, rfl, fun _ => rfl⟩
  | search =>
    cases hr
    obtain ⟨w, hw⟩ := s.searchInit.srcNextPass_frame
    exact ⟨s.config, s.status.state, w, hw, fun _ => rfl⟩
  | master _ hm =>
    obtain ⟨d, w, ht⟩ := (hm.leaves hr).frame_eq
    exact ⟨s.config, d, w, ht, fun _ => rfl⟩
  | sample pin _ hp => exact ⟨s.config, _, _, hp.frame_eq hr, fun _ => rfl⟩
  | pullupEnd => cases hr; exact ⟨s.config, _, _, rfl, fun _ => rfl⟩

/-- Only MASTER and SAMPLE reach a byte that was withdrawn (20_memory.md R87). -/
theorem State.Runs.reaches_withdrawn {s : State} {i : Instr} {r : Option State} (h : s.Runs i r) (hr : r = none) :
    i = .master false ∨ ∃ pin, i = .sample pin := by
  cases h <;> simp at hr ⊢

/-- What an instruction can change of the frame: BSM can get stuck, a fault can be recorded, and CONFIG, STATUS.state and
STATUS.waiter can be written. -/
theorem exec_frame {i : Instr} {s t : State} (h : exec i s = .next t) :
    ∃ b f c d w, t.frame = { s.frame with
        stuck := { s.stuck with bsm := b }, fault := f, config := c, driver := d, waiter := w } ∧
      (s.stuck.bsm = true → b = true) ∧
      ((i ≠ .master false ∧ ∀ pin, i ≠ .sample pin) → b = s.stuck.bsm) ∧
      (¬ Instr.writesConfig i → c = s.config) := by
  rcases exec_goesOn h with rfl | ⟨c, info, rfl⟩ | ⟨-, r, hrun, hr⟩
  · exact ⟨_, _, _, _, _, rfl, id, fun _ => rfl, fun _ => rfl⟩
  · exact ⟨_, _, _, _, _, rfl, id, fun _ => rfl, fun _ => rfl⟩
  · rcases (s.respond_eq_next t r).1 hr with hsome | ⟨hnone, rfl⟩
    · obtain ⟨c, d, w, ht, hc⟩ := hrun.frame_eq hsome
      exact ⟨s.stuck.bsm, s.fault, c, d, w, ht, id, fun _ => rfl, hc⟩
    · refine ⟨true, _, _, _, _, rfl, fun _ => rfl, fun hn => ?_, fun _ => rfl⟩
      rcases hrun.reaches_withdrawn hnone with hi | ⟨pin, hi⟩
      · exact absurd hi hn.1
      · exact absurd hi (hn.2 pin)

/-- Settles O49, field by field from `exec_frame`. -/
theorem instructionsKeepOperandsAndConfiguration : Obligations.InstructionsKeepOperandsAndConfiguration := by
  intro i s t h
  obtain ⟨b, f, c, d, w, hf, hb, hstuck, hc⟩ := exec_frame h
  simp only [State.frame, Frame.mk.injEq] at hf
  obtain ⟨hparams, h0, h1, h2, hmap, hst, hcaller, hhalts, hinputs, hdraws, hread, -, hconfig, -, -⟩ := hf
  refine ⟨h0, h1, h2, hparams, hmap, hinputs, hdraws, hread, hcaller, hhalts, by rw [hst], fun hs => ?_,
    fun hm hp => ?_, fun ho hstart hstop => ?_⟩
  · rw [hst]
    exact hb hs
  · rw [hst, hstuck ⟨hm, hp⟩]
  · rw [hconfig]
    exact hc (by simp [Instr.writesConfig, ho, hstart, hstop])

end Sys2Proof.Machine
end

section
/-! PROOF. O20 and O21: what changes STATUS.state (10_state.md R32), and what resumes a blocked host (R36). -/

namespace Sys2Proof.Machine

theorem State.HandsOn.state_eq {s t : State} (h : s.HandsOn t) : t.status.state = s.status.state := by
  obtain ⟨w, hw⟩ := h.frame_eq
  exact congrArg Frame.driver hw

theorem State.HandsOn.fault_eq {s t : State} (h : s.HandsOn t) : t.fault = s.fault := by
  obtain ⟨w, hw⟩ := h.frame_eq
  exact congrArg Frame.fault hw

/-- A MASTER's response changes STATUS.state only where it starts the strong pull-up phase (41_bit_io.md R166). -/
theorem State.MasterLeaves.state_eq {s t : State} (h : s.MasterLeaves t) (hne : t.status.state ≠ s.status.state) :
    s.status.op = .write ∧ s.status.finalTimeslot = true ∧ s.status.needPullup = true ∧
      t.status.state = .pullUp := by
  rcases h with h | ⟨-, h⟩ | ⟨hop, hf, hp, rfl⟩
  · exact absurd (congrArg Frame.driver h) hne
  · exact absurd h.state_eq hne
  · exact ⟨hop, hf, hp, rfl⟩

/-- A MASTER's response resumes the host only in the final timeslot, with nothing in flight after it. -/
theorem State.MasterLeaves.resumes {s t : State} (h : s.MasterLeaves t) (hw : s.status.waiter = true)
    (hw' : t.status.waiter = false) :
    s.status.finalTimeslot = true ∧ t.search.phase = .idle ∧ t.status.op = .none ∧ t.fault = s.fault := by
  have stays : t.frame ≠ s.frame := fun h => by
    have hsame : t.status.waiter = s.status.waiter := congrArg Frame.waiter h
    simp [hw, hw'] at hsame
  rcases h with h | ⟨hf, h⟩ | ⟨-, -, -, rfl⟩
  · exact absurd h stays
  · rcases id h with h' | ⟨-, hp, hop⟩
    · exact absurd h' stays
    · exact ⟨hf, hp, hop, h.fault_eq⟩
  · simp [State.startPullup, hw] at hw'

/-- Settles O20, by the response that ran: a fault, a stuck BSM and an instruction without effect keep STATUS.state. -/
theorem driverStateChangesOnlyByItsTransitions : Obligations.DriverStateChangesOnlyByItsTransitions := by
  intro i s t h hne
  rcases exec_goesOn h with rfl | ⟨c, info, rfl⟩ | ⟨-, r, hrun, hr⟩
  · exact absurd rfl hne
  · exact absurd rfl hne
  rcases (s.respond_eq_next t r).1 hr with hsome | ⟨-, rfl⟩
  swap
  · exact absurd rfl hne
  cases hrun with
  | objinit _ hs => cases hsome; exact .inl ⟨rfl, hs, rfl⟩
  | start _ hs => cases hsome; exact .inr (.inl ⟨rfl, hs, rfl⟩)
  | stop _ hs => cases hsome; exact .inr (.inr (.inl ⟨rfl, hs, rfl⟩))
  | reset => cases hsome; exact absurd rfl hne
  | read => cases hsome; exact absurd rfl hne
  | write => cases hsome; exact absurd rfl hne
  | crc8 => cases hsome; exact absurd rfl hne
  | search =>
    cases hsome
    obtain ⟨w, hw⟩ := s.searchInit.srcNextPass_frame
    exact absurd (congrArg Frame.driver hw) hne
  | master _ hm => exact .inr (.inr (.inr (.inl ⟨rfl, (hm.leaves hsome).state_eq hne⟩)))
  | sample pin _ hp => exact absurd (congrArg Frame.driver (hp.frame_eq hsome)) hne
  | pullupEnd _ hop => cases hsome; exact .inr (.inr (.inr (.inr ⟨rfl, hop, rfl⟩)))

/-- PULLUP_END finds no SEARCH in flight: a power phase is a WRITE's, and a SEARCH has none (42_search_rom.md R205). -/
theorem State.Control.phase_idle_of_pullup {s : State} (h : s.Control) (hop : s.status.op = .pullup) :
    s.search.phase = .idle := by
  obtain ⟨-, -, ⟨-, hreset, hcmd, htriplet, -⟩, -⟩ := h
  cases hp : s.search.phase
  case idle => rfl
  all_goals simp_all

/-- Settles O21: no command runs while a host waits, so what resumes it is an event. -/
theorem hostIsResumedOnlyByTheTerminalEvent : Obligations.HostIsResumedOnlyByTheTerminalEvent := by
  intro i s t h hw hw'
  rcases exec_goesOn h with rfl | ⟨c, info, rfl⟩ | ⟨hv, r, hrun, hr⟩
  · simp [hw] at hw'
  · simp [hw] at hw'
  rcases (s.respond_eq_next t r).1 hr with hsome | ⟨-, rfl⟩
  swap
  · simp [hw] at hw'
  cases hrun with
  | master _ hm =>
    obtain ⟨hf, hp, hop, hfault⟩ := (hm.leaves hsome).resumes hw hw'
    exact ⟨.inl ⟨rfl, hf, hp⟩, fun _ => hp, hop, hfault⟩
  | sample pin _ hp =>
    have hsame : t.status.waiter = s.status.waiter := congrArg Frame.waiter (hp.frame_eq hsome)
    simp [hw, hw'] at hsame
  | pullupEnd _ hop =>
    cases hsome
    exact ⟨.inr ⟨rfl, hop, rfl⟩, fun ⟨_, _, _, _, _, hc⟩ => (hc hv).phase_idle_of_pullup hop, rfl, rfl⟩
  | _ => simp_all

end Sys2Proof.Machine
end

section
/-! PROOF. The invariant of 10_state.md R58, outside an operation's slots: with no command in flight the machine is at rest
(`State.AtRest`); between two operations of a command the host waits and PG is stopped (`State.Between`), and every
operation is armed from there. -/

namespace Sys2Proof.Machine

/-- The bounds the register layout puts on the parameters (log 8). -/
theorem Params.ok_iff {p : Params} :
    p.ok = true ↔ p.countBits ≤ 16 ∧ 1 ≤ p.countMax ∧ p.countMax < 2 ^ p.countBits ∧ p.devBits ≤ 16 ∧
      1 ≤ p.devMax ∧ p.devMax < 2 ^ p.devBits ∧ p.addrW ≤ 32 ∧ p.puBits ≤ 32 := by
  simp [Params.ok, and_assoc]

/-! ### At rest -/

/-- No command is in flight: BSM can go on, no host waits, nothing runs and no power phase is asked for. -/
structure State.AtRest (s : State) : Prop where
  params : s.params.ok = true
  mem : s.mem.wf = true
  range : s.InRange
  hosts : s.HostsOnce
  bsm : s.stuck.bsm = false
  waiter : s.status.waiter = false
  op : s.status.op = .none
  phase : s.search.phase = .idle
  needPullup : s.status.needPullup = false
  run : s.pgctl.run = false
  sampleEn : s.pgctl.sampleEn = false
  slotOpen : s.pg.slotOpen = false
  puAsserted : s.pgctl.puAsserted = false
  put : s.put = none

/-- At rest the invariant only asks that a configuration is bound exactly in READY. -/
theorem State.AtRest.inv {s : State} (h : s.AtRest) (hst : s.status.state ≠ .pullUp)
    (hb : s.bound = true ↔ s.status.state = .ready) : s.Inv := by
  refine ⟨h.params, h.mem, h.range, h.hosts, by simp [h.bsm], fun _ => ⟨?_, ?_, ?_, ?_⟩⟩
  · simp [State.Handshake, h.waiter, h.op, h.phase, h.run, h.puAsserted, h.put, hst]
  · simp [State.Lifecycle, h.op, h.needPullup, hb, hst]
  · simp [State.PhaseMatches, h.op, h.phase]
  · simp [State.sequenceOk, h.op, h.slotOpen, h.sampleEn]

/-! ### Between two operations -/

/-- Between two operations of the command in flight: BSM can go on, the host waits, no operation runs, and PG, PUT and the
pull-up are idle. -/
structure State.Between (s : State) : Prop where
  params : s.params.ok = true
  mem : s.mem.wf = true
  range : s.InRange
  hosts : s.HostsOnce
  bsm : s.stuck.bsm = false
  waiter : s.status.waiter = true
  state : s.status.state = .ready
  bound : s.bound = true
  op : s.status.op = .none
  run : s.pgctl.run = false
  sampleEn : s.pgctl.sampleEn = false
  slotOpen : s.pg.slotOpen = false
  puAsserted : s.pgctl.puAsserted = false
  put : s.put = none

/-- Between operations SRC writes SEARCH freely, as long as it counts no more codes than the buffer holds. -/
theorem State.Between.withSearch {s : State} (h : s.Between) (r : SearchReg) (hr : r.devicesFound ≤ s.rmax) :
    State.Between { s with search := r } := by
  obtain ⟨hbytes, -, hrest⟩ := h.range
  exact { h with range := ⟨hbytes, hr, hrest⟩ }

/-- No more codes are counted than the buffer holds. -/
theorem State.Between.found_le {s : State} (h : s.Between) : s.search.devicesFound ≤ s.rmax := by
  obtain ⟨-, hfound, -⟩ := h.range
  exact hfound

/-- The host is resumed where no SEARCH goes on and no power phase is asked for. -/
theorem State.Between.resume_inv {s : State} (h : s.Between) (hp : s.search.phase = .idle)
    (hn : s.status.needPullup = false) (v : Word) : (s.resume v).Inv :=
  State.AtRest.inv { h with waiter := rfl, phase := hp, needPullup := hn } (by simp [h.state])
    (iff_of_true h.bound h.state)

/-- An operation is armed (41_bit_io.md R156). -/
theorem State.Between.arm_inv {s : State} (h : s.Between) {k : BsmOp} {p ss se : Bool} {low : LowPulse}
    (hk : k ≠ .none ∧ k ≠ .pullup)
    (hn : s.status.needPullup = true → k = .write ∧ s.search.phase = .idle ∧ s.params.strongPullup = true)
    (hp : (s.arm k p ss se low).PhaseMatches) (hseq : (s.arm k p ss se low).sequenceOk = true) :
    (s.arm k p ss se low).Inv := by
  have hb : (s.arm k p ss se low).bound = true := h.bound
  refine ⟨h.params, h.mem, h.range, h.hosts, by simp [h.bsm], fun _ => ⟨?_, ?_, hp, hseq⟩⟩
  · simp [State.Handshake, hk, h.waiter, h.state, h.puAsserted, h.put]
  · refine ⟨fun _ => .inl h.state, by simp [hb, h.state], fun hr => ⟨(hn hr).1, (hn hr).2.1⟩, ?_⟩
    rintro (hr | hr)
    · exact (hn hr).2.2
    · exact absurd hr hk.2

/-- A reset slot is armed, of a RESET or of a pass of a SEARCH (41_bit_io.md R160; 42_search_rom.md R204). -/
theorem State.Between.armReset_inv {s : State} (h : s.Between) (hn : s.status.needPullup = false)
    (hp : s.search.phase = .idle ∨ s.search.phase = .reset ∧ s.search.devicesFound < s.rmax) : s.armReset.Inv := by
  have h' : State.Between { s with status := { s.status with slavePresent := false } } := { h with }
  refine h'.arm_inv (by simp) (by simp [hn]) ?_ rfl
  rcases hp with hp | ⟨hp, hroom⟩
  · simp [State.PhaseMatches, hp]
  · simpa [State.PhaseMatches, hp] using hroom

/-! ### The search controller -/

theorem State.Between.srcFinish_inv {s : State} (h : s.Between) (hn : s.status.needPullup = false) :
    s.srcFinish.Inv :=
  (h.withSearch { s.search with phase := .idle } h.found_le).resume_inv rfl hn _

/-- −1, no branch taken, is a legal branch marker (10_state.md R55). -/
theorem noBranch_inRange : -1 ≤ (-1 : BitVec 8).toInt ∧ (-1 : BitVec 8).toInt ≤ 63 := by decide

theorem State.Between.srcPassInit {s : State} (h : s.Between) : s.srcPassInit.Between := by
  obtain ⟨hbytes, hfound, hmax, hcursor, hrbuf, hpu, hlast, -⟩ := h.range
  have hprev : -1 ≤ s.srcPassInit.branch.prevZero.toInt ∧ s.srcPassInit.branch.prevZero.toInt ≤ 63 := by
    simp only [State.srcPassInit]
    split_ifs
    · exact hlast
    · exact noBranch_inRange
  exact { h with range := ⟨hbytes, hfound, hmax, hcursor, hrbuf, hpu, noBranch_inRange, hprev⟩ }

theorem State.Between.srcNextPass_inv {s : State} (h : s.Between) (hn : s.status.needPullup = false) :
    s.srcNextPass.Inv := by
  unfold State.srcNextPass
  split_ifs with hfull
  · exact (h.withSearch { s.search with result := .error } h.found_le).srcFinish_inv hn
  · exact h.srcPassInit.armReset_inv hn (.inr ⟨rfl, BitVec.lt_of_le_ne h.found_le hfull⟩)

/-- A recorded code is counted within the buffer's bound. -/
theorem State.Between.srcRecord {s t : State} (h : s.Between) (hroom : s.search.devicesFound < s.rmax)
    (ht : s.srcRecord = some t) : t.Between ∧ t.status = s.status := by
  obtain ⟨ht', hmem⟩ := State.srcRecord_frame s t ht
  generalize t.mem = m at ht' hmem
  subst ht'
  have hfound : s.search.devicesFound + 1 ≤ s.rmax := by bv_omega
  have hstored : State.Between { s with mem := m, prev := s.rom } := { h with mem := hmem h.mem }
  exact ⟨hstored.withSearch { s.search with devicesFound := s.search.devicesFound + 1 } hfound, rfl⟩

theorem State.Between.srcAfterPass_inv {s t : State} (h : s.Between) (hn : s.status.needPullup = false)
    (hroom : s.search.devicesFound < s.rmax) (ht : s.srcAfterPass = some t) : t.Inv := by
  rcases s.srcAfterPass_cases with ⟨-, ha⟩ | ⟨-, -, ha⟩ | ⟨-, u, hu, ha⟩ | ⟨-, u, hu, ha⟩ <;> rw [ha] at ht <;> cases ht
  · exact h.srcFinish_inv hn
  all_goals obtain ⟨hb, hst⟩ := h.srcRecord hroom hu
  · exact hb.srcFinish_inv (by rw [hst, hn])
  · exact (hb.withSearch { u.search with kind := .next } hb.found_le).srcNextPass_inv (by simp [hst, hn])

/-- The command byte of a pass is one byte, which every COUNT_MAX admits (42_search_rom.md R205). -/
theorem State.Between.srcSendSearchCmd_inv {s t : State} (h : s.Between) (hp : s.search.phase = .cmd)
    (hroom : s.search.devicesFound < s.rmax) (ht : s.srcSendSearchCmd = some t) : t.Inv := by
  rw [State.srcSendSearchCmd, State.armWrite_eq] at ht
  cases ht
  have hone : (1#16).toNat ≤ s.params.countMax := (Params.ok_iff.1 h.params).2.1
  refine State.Between.arm_inv ?_ (by simp) (by simp) ?_ ?_
  · obtain ⟨-, hrest⟩ := h.range
    exact { h with range := ⟨hone, hrest⟩ }
  · simpa [State.PhaseMatches, hp] using hroom
  · simp [State.sequenceOk]

theorem State.Between.srcArmTriplets_inv {s : State} (h : s.Between) (hn : s.status.needPullup = false)
    (hp : s.search.phase = .triplet) (hroom : s.search.devicesFound < s.rmax) : s.srcArmTriplets.Inv := by
  refine State.Between.arm_inv (h.withSearch _ h.found_le) (by simp) (by simp [hn]) ?_ rfl
  simpa [State.PhaseMatches, hp] using hroom

/-- The SEARCH goes on after its reset slots, its command byte or its triplets (42_search_rom.md R201). -/
theorem State.Between.srcSubDone_inv {s t : State} {v : Word} (h : s.Between) (hn : s.status.needPullup = false)
    (hp : s.search.phase ≠ .idle) (hroom : s.search.devicesFound < s.rmax) (ht : s.srcSubDone v = some t) : t.Inv := by
  unfold State.srcSubDone at ht
  cases hphase : s.search.phase with
  | idle => exact absurd hphase hp
  | reset =>
    simp only [hphase] at ht
    split_ifs at ht
    · exact (h.withSearch { s.search with result := .error } h.found_le).srcAfterPass_inv hn hroom ht
    · exact State.Between.srcSendSearchCmd_inv (h.withSearch { s.search with phase := .cmd } h.found_le) rfl hroom ht
  | cmd =>
    simp only [hphase, Option.some.injEq] at ht
    subst ht
    exact State.Between.srcArmTriplets_inv (h.withSearch { s.search with phase := .triplet } h.found_le) hn rfl hroom
  | triplet =>
    simp only [hphase] at ht
    exact (h.withSearch s.srcEndPass.search h.found_le).srcAfterPass_inv hn hroom ht

/-- Complete, from the state in which an operation has ended (41_bit_io.md R157). -/
theorem State.complete_inv {s t : State} {v : Word} (h : s.endOp.Between) (hn : s.status.needPullup = false)
    (hroom : s.search.phase ≠ .idle → s.search.devicesFound < s.rmax) (ht : s.complete v = some t) : t.Inv := by
  rw [State.complete_eq] at ht
  split_ifs at ht with hp
  · cases ht
    exact h.resume_inv hp hn v
  · exact h.srcSubDone_inv hn hp (hroom hp) ht

end Sys2Proof.Machine
end

section
/-! PROOF. The invariant of 10_state.md R58, within an operation: a response to MASTER or SAMPLE keeps the operation's
course (`State.course`) and moves its place in the slot sequence, or it ends the operation. -/

namespace Sys2Proof.Machine

/-! ### The course of an operation -/

/-- What a response within an operation leaves alone: the frame, which operation runs and for whom, and the pull-up. -/
structure Course where
  frame : Frame
  op : BsmOp
  phase : SearchPhase
  run : Bool
  needPullup : Bool
  puAsserted : Bool
  put : Option Word
  wsrc : WriteSource
  devicesFound : BitVec 16
  rmax : BitVec 16

/-- The course of a state. -/
def State.course (s : State) : Course where
  frame := s.frame
  op := s.status.op
  phase := s.search.phase
  run := s.pgctl.run
  needPullup := s.status.needPullup
  puAsserted := s.pgctl.puAsserted
  put := s.put
  wsrc := s.wsrc
  devicesFound := s.search.devicesFound
  rmax := s.rmax

/-- A response that stays within the operation keeps the invariant where its place in the slot sequence is right. -/
theorem State.Inv.of_course {s t : State} (hs : s.Inv) (hv : s.fault.valid = false) (hc : t.course = s.course)
    (hm : t.mem.wf = true) (hr : t.InRange) (hseq : t.sequenceOk = true) : t.Inv := by
  obtain ⟨hparams, -, -, hhosts, hbsm, hcontrol⟩ := hs
  obtain ⟨hhand, hlife, hphase, -⟩ := hcontrol hv
  simp only [State.course, State.frame, Course.mk.injEq, Frame.mk.injEq] at hc
  obtain ⟨⟨h1, -, -, -, -, h2, -, h3, -, -, -, -, h4, h5, h6⟩, h7, h8, h9, h10, h11, h12, h13, h14, h15⟩ := hc
  refine ⟨by rwa [h1], hm, hr, by rwa [State.HostsOnce, h2, h3], by rwa [h2, h6], fun _ => ⟨?_, ?_, ?_, hseq⟩⟩
  · simpa only [State.Handshake, h5, h6, h7, h8, h9, h11, h12] using hhand
  · simpa only [State.Lifecycle, State.bound, h1, h4, h5, h7, h8, h10] using hlife
  · simpa only [State.PhaseMatches, h7, h8, h13, h14, h15] using hphase

/-! ### The place in the slot sequence, by operation

A proof below gives the operation as `(by exact hop)`, so that the state is taken from its goal first. -/

section
variable {s : State}

theorem State.sequenceOk_reset (hop : s.status.op = .reset) :
    s.sequenceOk = true ↔ (s.pg.slotOpen = true → s.pgctl.run = true) ∧
      (s.status.finalTimeslot = true → s.pgctl.sampleEn = s.pg.slotOpen) ∧
      (s.status.finalTimeslot = false → s.pgctl.sampleEn = true ∧ s.pg.slotOpen = false) := by
  cases hf : s.status.finalTimeslot <;> simp [State.sequenceOk, hop, hf, imp_iff_not_or]

theorem State.sequenceOk_read (hop : s.status.op = .read) :
    s.sequenceOk = true ↔ (s.pg.slotOpen = true → s.pgctl.run = true) ∧
      (s.status.finalTimeslot = true → s.pgctl.sampleEn = s.pg.slotOpen ∧
        (s.pgctl.sampleEn = true → s.status.bytes = 1 ∧ s.status.bit = 7) ∧
        (s.pgctl.sampleEn = false → s.status.bytes = 0 ∧ s.status.bit = 0)) ∧
      (s.status.finalTimeslot = false → s.pgctl.sampleEn = true ∧ s.status.bytes ≠ 0 ∧
        (s.pg.slotOpen = true → s.status.bytes = 1 → s.status.bit ≠ 7)) := by
  cases hf : s.status.finalTimeslot <;> cases he : s.pgctl.sampleEn <;> cases ho : s.pg.slotOpen <;>
    simp [State.sequenceOk, hop, hf, he, ho, imp_iff_not_or]

theorem State.sequenceOk_write (hop : s.status.op = .write) :
    s.sequenceOk = true ↔ (s.pg.slotOpen = true → s.pgctl.run = true) ∧ s.pgctl.sampleEn = false ∧
      (s.status.bytes = 0 → s.status.bit = 0) ∧
      (s.status.bytes ≠ 0 → s.status.finalTimeslot = false ∧ (s.wsrc = .memory ∨ s.status.bytes = 1)) := by
  by_cases h0 : s.status.bytes = 0#16 <;> simp [State.sequenceOk, hop, h0, imp_iff_not_or]

theorem State.sequenceOk_triplet (hop : s.status.op = .triplet) :
    s.sequenceOk = true ↔ (s.pg.slotOpen = true → s.pgctl.run = true) ∧
      (s.status.finalTimeslot = true → s.pgctl.sampleEn = s.pg.slotOpen ∧
        (s.search.bitStep = .slotW → s.search.rombit = 63) ∧
        (s.search.bitStep ≠ .slotW → s.search.result = .error ∧ s.pgctl.sampleEn = false)) ∧
      (s.status.finalTimeslot = false → s.pgctl.sampleEn = true ∧
        (s.pg.slotOpen = true → s.search.bitStep = .slotW → s.search.rombit ≠ 63)) := by
  cases hf : s.status.finalTimeslot <;> by_cases hb : s.search.bitStep = .slotW <;> cases ho : s.pg.slotOpen <;>
    simp [State.sequenceOk, hop, hf, hb, ho]

end

/-! ### What the invariant says while no fault is recorded -/

section
variable {s t : State}

/-- The control invariant, where no fault is recorded. -/
theorem State.Inv.control (hs : s.Inv) (hv : s.fault.valid = false) : s.Control :=
  let ⟨_, _, _, _, _, hc⟩ := hs
  hc hv

theorem State.Inv.range (hs : s.Inv) : s.InRange :=
  let ⟨_, _, hr, _⟩ := hs
  hr

theorem State.Inv.mem_wf (hs : s.Inv) : s.mem.wf = true :=
  let ⟨_, hm, _⟩ := hs
  hm

theorem State.Inv.params_ok (hs : s.Inv) : s.params.ok = true :=
  let ⟨hp, _⟩ := hs
  hp

theorem State.Inv.sequence (hs : s.Inv) (hv : s.fault.valid = false) : s.sequenceOk = true :=
  let ⟨_, _, _, hseq⟩ := hs.control hv
  hseq

/-- Only a WRITE asks for a power phase. -/
theorem State.Inv.needPullup_false (hs : s.Inv) (hv : s.fault.valid = false) (hop : s.status.op ≠ .write) :
    s.status.needPullup = false := by
  obtain ⟨-, ⟨-, -, hn, -⟩, -, -⟩ := hs.control hv
  cases h : s.status.needPullup
  · rfl
  · exact absurd (hn h).1 hop

/-! ### The responses to MASTER -/

/-- While an operation runs in the slots of PG, the host waits in READY with the pull-up released. -/
theorem State.Inv.endOp_between (hs : s.Inv) (ha : s.Answers) (hop : s.status.op ≠ .none ∧ s.status.op ≠ .pullup) :
    s.latchSlot.endOp.Between := by
  obtain ⟨hparams, hmem, hrange, hhosts, -, hcontrol⟩ := hs
  obtain ⟨⟨hw, -, hstate, hpu, hput⟩, ⟨hlife, hbound, -⟩, -⟩ := hcontrol ha.1
  have hready : s.status.state = .ready := (hlife hop.1).resolve_right fun h => hop.2 (hstate.1 h)
  exact {
    params := hparams, mem := hmem, range := hrange, hosts := hhosts, bsm := ha.2
    waiter := hw.2 (.inl hop.1), state := hready, bound := hbound.2 (.inl hready)
    op := rfl, run := rfl, sampleEn := rfl, slotOpen := rfl
    puAsserted := by simpa [State.endOp] using mt hpu.1 hop.2
    put := by simpa [State.endOp] using mt hput.1 hop.2 }

/-- The operation in flight completes at a MASTER. -/
theorem State.Inv.complete_inv (hs : s.Inv) (ha : s.Answers) (hop : s.status.op ≠ .none ∧ s.status.op ≠ .pullup)
    (hn : s.status.needPullup = false) {v : Word} (ht : s.latchSlot.complete v = some t) : t.Inv := by
  obtain ⟨-, -, ⟨-, -, -, -, hroom⟩, -⟩ := hs.control ha.1
  exact State.complete_inv (hs.endOp_between ha hop) hn hroom ht

theorem State.Inv.masterReset_inv (hs : s.Inv) (hm : s.MasterReady) (hop : s.status.op = .reset)
    (ht : s.latchSlot.masterReset = some t) : t.Inv := by
  obtain ⟨ha, hrun, -⟩ := hm
  obtain ⟨-, -, hseq⟩ := (State.sequenceOk_reset hop).1 (hs.sequence ha.1)
  unfold State.masterReset at ht
  split_ifs at ht with hf
  · exact hs.complete_inv ha (by simp [hop]) (hs.needPullup_false ha.1 (by simp [hop])) ht
  · cases ht
    refine hs.of_course ha.1 rfl hs.mem_wf hs.range ((State.sequenceOk_reset (by exact hop)).2 ?_)
    simp_all

theorem State.Inv.masterRead_inv (hs : s.Inv) (hm : s.MasterReady) (hop : s.status.op = .read)
    (ht : s.latchSlot.masterRead = some t) : t.Inv := by
  obtain ⟨ha, hrun, -⟩ := hm
  obtain ⟨-, -, hseq⟩ := (State.sequenceOk_read hop).1 (hs.sequence ha.1)
  unfold State.masterRead at ht
  split_ifs at ht with hf hlast
  · exact hs.complete_inv ha (by simp [hop]) (hs.needPullup_false ha.1 (by simp [hop])) ht
  all_goals
    cases ht
    refine hs.of_course ha.1 rfl hs.mem_wf hs.range ((State.sequenceOk_read (by exact hop)).2 ?_)
    simp_all

/-- The write cursor stays an address (00_scope.md R12). -/
theorem State.nextCursor_lt (s : State) : s.nextCursor.toNat < 2 ^ s.params.addrW := by
  have h := Nat.mod_lt (s.cursor.toNat + 1) (Nat.two_pow_pos s.params.addrW)
  exact lt_of_le_of_lt (by simpa [State.nextCursor, State.addrAdd] using Nat.mod_le _ _) h

/-- The strong pull-up phase begins: PG gives the bus to PUT (41_bit_io.md R166). -/
theorem State.Inv.startPullup_inv (hs : s.Inv) (hv : s.fault.valid = false) (hop : s.status.op = .write)
    (hn : s.status.needPullup = true) : s.latchSlot.startPullup.Inv := by
  obtain ⟨hparams, hmem, hrange, hhosts, hbsm, hcontrol⟩ := hs
  obtain ⟨⟨hw, -⟩, ⟨hlife, hbound, hneed, hstrong⟩, -, -⟩ := hcontrol hv
  have hb : s.bound = true := hbound.2 (hlife (by simp [hop]))
  have hwait : s.status.waiter = true := hw.2 (.inl (by simp [hop]))
  have hidle := (hneed hn).2
  refine ⟨hparams, hmem, hrange, hhosts, fun _ => hwait, fun _ => ⟨?_, ?_, ?_, rfl⟩⟩
  · simp [State.Handshake, State.startPullup, hwait]
  · exact ⟨fun _ => .inr rfl, iff_of_true hb (.inr rfl), by simp [State.startPullup], fun _ => hstrong (.inl hn)⟩
  · simp [State.PhaseMatches, State.startPullup, hidle]

/-- A WRITE's next bit: the cursor stays an address, and only a WRITE from host memory has a next byte. -/
theorem State.Inv.advW_inv (hs : s.Inv) (ha : s.Answers) (hrun : s.pgctl.run = true) (hop : s.status.op = .write)
    (h0 : ¬ s.status.bytes = 0) {low : LowPulse} (ht : (s.latchSlot.setNextLow low).advW = some t) : t.Inv := by
  obtain ⟨hbytes, hfound, hmax, -, hrange⟩ := hs.range
  have hcursor := (s.latchSlot.setNextLow low).nextCursor_lt
  obtain ⟨-, hen, -, hseq⟩ := (State.sequenceOk_write hop).1 (hs.sequence ha.1)
  obtain ⟨hf, hsrc⟩ := hseq h0
  rcases State.advW_cases (s.latchSlot.setNextLow low) with ⟨-, h⟩ | ⟨-, -, h⟩ | ⟨-, h1, b, -, h⟩ | ⟨-, -, -, h⟩ <;>
    rw [h] at ht <;> cases ht
  · exact hs.of_course ha.1 rfl hs.mem_wf hs.range
      ((State.sequenceOk_write (by exact hop)).2 ⟨fun _ => hrun, hen, fun h => absurd h h0, fun _ => ⟨hf, hsrc⟩⟩)
  · exact hs.of_course ha.1 rfl hs.mem_wf ⟨Nat.zero_le _, hfound, hmax, hcursor, hrange⟩
      ((State.sequenceOk_write (by exact hop)).2 ⟨fun _ => hrun, hen, fun _ => rfl, fun h => absurd rfl h⟩)
  · have hless : (s.status.bytes - 1).toNat ≤ s.params.countMax := by bv_omega
    exact hs.of_course ha.1 rfl hs.mem_wf ⟨hless, hfound, hmax, hcursor, hrange⟩
      ((State.sequenceOk_write (by exact hop)).2
        ⟨fun _ => hrun, hen, fun _ => rfl, fun _ => ⟨hf, .inl (hsrc.resolve_right h1)⟩⟩)

theorem State.Inv.masterWrite_inv (hs : s.Inv) (hm : s.MasterReady) (hop : s.status.op = .write)
    (ht : s.latchSlot.masterWrite = some t) : t.Inv := by
  obtain ⟨ha, hrun, -⟩ := hm
  unfold State.masterWrite State.finishWrite at ht
  split_ifs at ht with hf hn h0
  · cases ht
    exact hs.startPullup_inv ha.1 hop hn
  · exact hs.complete_inv ha (by simp [hop]) (by simpa using hn) ht
  · cases ht
    have hseq := (State.sequenceOk_write hop).1 (hs.sequence ha.1)
    refine hs.of_course ha.1 rfl hs.mem_wf hs.range ((State.sequenceOk_write (by exact hop)).2 ?_)
    simp_all
  · exact hs.advW_inv ha hrun hop h0 ht

theorem State.Inv.masterTriplet_inv (hs : s.Inv) (hm : s.MasterReady) (hop : s.status.op = .triplet)
    (ht : s.latchSlot.masterTriplet = some t) : t.Inv := by
  obtain ⟨ha, hrun, -⟩ := hm
  obtain ⟨-, -, hseq⟩ := (State.sequenceOk_triplet hop).1 (hs.sequence ha.1)
  unfold State.masterTriplet at ht
  by_cases hf : s.status.finalTimeslot = true
  · rw [State.latchSlot_status, if_pos hf] at ht
    exact hs.complete_inv ha (by simp [hop]) (hs.needPullup_false ha.1 (by simp [hop])) ht
  · rw [State.latchSlot_status, if_neg hf] at ht
    cases hb : s.latchSlot.search.bitStep <;> simp only [hb] at ht
    case slotW =>
      split_ifs at ht <;> cases ht <;>
        refine hs.of_course ha.1 rfl hs.mem_wf hs.range ((State.sequenceOk_triplet (by exact hop)).2 ?_) <;> simp_all
    all_goals
      cases ht
      refine hs.of_course ha.1 rfl hs.mem_wf hs.range ((State.sequenceOk_triplet (by exact hop)).2 ?_)
      simp_all

/-! ### The responses to SAMPLE -/

theorem State.Inv.sampleReset_inv (hs : s.Inv) (hm : s.SampleReady) (hop : s.status.op = .reset) (pin : Bool) :
    (s.closeSlot.sampleReset pin).Inv := by
  obtain ⟨ha, hrun, hen, hopen⟩ := hm
  obtain ⟨-, -, hseq⟩ := (State.sequenceOk_reset hop).1 (hs.sequence ha.1)
  refine hs.of_course ha.1 rfl hs.mem_wf hs.range ((State.sequenceOk_reset (by exact hop)).2 ?_)
  simp_all [State.sampleReset]

theorem State.Inv.sampleRead_inv (hs : s.Inv) (hm : s.SampleReady) (hop : s.status.op = .read) {pin : Bool}
    (ht : s.closeSlot.sampleRead pin = some t) : t.Inv := by
  obtain ⟨ha, hrun, hen, hopen⟩ := hm
  obtain ⟨-, hfinal, hseq⟩ := (State.sequenceOk_read hop).1 (hs.sequence ha.1)
  unfold State.sampleRead at ht
  split_ifs at ht with h7
  · obtain ⟨-, rfl⟩ := (State.storeReadByte_eq_some _ _).1 ht
    obtain ⟨hbytes, hfound, hmax, -, hrange⟩ := hs.range
    have h0 : s.status.bytes ≠ 0 := by
      cases hf : s.status.finalTimeslot
      · exact (hseq hf).2.1
      · simp [((hfinal hf).2.1 hen).1]
    have hless : (s.status.bytes - 1).toNat ≤ s.params.countMax := by bv_omega
    refine hs.of_course ha.1 rfl (Memory.write_wf _ _ _ hs.mem_wf) ⟨hless, hfound, hmax, s.nextCursor_lt, hrange⟩
      ((State.sequenceOk_read (by exact hop)).2 ?_)
    cases hf : s.status.finalTimeslot
    · have hmore : ¬ s.status.bytes - 1 = 0 := by
        intro h
        exact (hseq hf).2.2 hopen (by bv_omega) h7
      simp_all
    · simp_all
  · cases ht
    refine hs.of_course ha.1 rfl hs.mem_wf hs.range ((State.sequenceOk_read (by exact hop)).2 ?_)
    simp_all

/-- Before the final timeslot a triplet's SAMPLE that leaves sampling on ends its slot in its place. -/
theorem State.Inv.of_sampled (hs : s.Inv) (hv : s.fault.valid = false) (hop : s.status.op = .triplet)
    (hc : t.course = s.course) (hm : t.mem = s.mem) (hr : t.InRange) (hf : t.status.finalTimeslot = false)
    (hen : t.pgctl.sampleEn = true) (hopen : t.pg.slotOpen = false) : t.Inv := by
  have hop' : t.status.op = .triplet := (congrArg Course.op hc).trans hop
  exact hs.of_course hv hc (hm ▸ hs.mem_wf) hr ((State.sequenceOk_triplet hop').2 (by simp [hf, hen, hopen]))

/-- A branch marker is −1 or a bit index (10_state.md R55; 42_search_rom.md R214). -/
theorem chooseBranch_inRange (i : BitVec 6) (prev : BitVec 64) (br : BranchReg)
    (hl : -1 ≤ br.lastZero.toInt ∧ br.lastZero.toInt ≤ 63) (hp : -1 ≤ br.prevZero.toInt ∧ br.prevZero.toInt ≤ 63) :
    let out := (chooseBranch i prev br).2
    (-1 ≤ out.lastZero.toInt ∧ out.lastZero.toInt ≤ 63) ∧ (-1 ≤ out.prevZero.toInt ∧ out.prevZero.toInt ≤ 63) := by
  have hi : (i.setWidth 8).toInt = i.toNat := by
    rw [BitVec.toInt_eq_toNat_of_lt] <;> simp <;> omega
  have hbit : -1 ≤ (i.setWidth 8).toInt ∧ (i.setWidth 8).toInt ≤ 63 := by omega
  simp only [chooseBranch]
  split_ifs
  · exact ⟨hl, hp⟩
  · exact ⟨hbit, hp⟩
  · exact ⟨hl, noBranch_inRange⟩
  · exact ⟨hbit, hp⟩

theorem State.Inv.sampleTriplet_inv (hs : s.Inv) (hm : s.SampleReady) (hop : s.status.op = .triplet) (pin : Bool) :
    (s.closeSlot.sampleTriplet pin).Inv := by
  obtain ⟨ha, hrun, hen, hopen⟩ := hm
  obtain ⟨-, hfinal, hseq⟩ := (State.sequenceOk_triplet hop).1 (hs.sequence ha.1)
  have hnot : s.search.bitStep ≠ .slotW → s.status.finalTimeslot = false := by
    intro hb
    cases hf : s.status.finalTimeslot
    · rfl
    · simp [((hfinal hf).2.2 hb).2] at hen
  unfold State.sampleTriplet
  cases hb : s.closeSlot.search.bitStep with
  | slotA =>
    replace hb : s.search.bitStep = .slotA := hb
    have hf := hnot (by simp [hb])
    exact hs.of_sampled ha.1 hop rfl rfl hs.range hf hen rfl
  | slotB =>
    replace hb : s.search.bitStep = .slotB := hb
    have hf := hnot (by simp [hb])
    simp only [State.sampleSlotB]
    split
    · refine hs.of_course ha.1 rfl hs.mem_wf hs.range ((State.sequenceOk_triplet (by exact hop)).2 ?_)
      simp [State.abortPass, hb]
    · exact hs.of_sampled ha.1 hop rfl rfl hs.range hf hen rfl
    · exact hs.of_sampled ha.1 hop rfl rfl hs.range hf hen rfl
    · obtain ⟨hbytes, hfound, hmax, hcursor, hrbuf, hpu, hlast, hprev⟩ := hs.range
      exact hs.of_sampled ha.1 hop rfl rfl
        ⟨hbytes, hfound, hmax, hcursor, hrbuf, hpu, chooseBranch_inRange _ _ _ hlast hprev⟩ hf hen rfl
  | slotW =>
    simp only [State.sampleSlotW]
    split_ifs with hf
    · refine hs.of_course ha.1 rfl hs.mem_wf hs.range ((State.sequenceOk_triplet (by exact hop)).2 ?_)
      have hlast := (hfinal hf).2.1 hb
      simp_all
    · exact hs.of_sampled ha.1 hop rfl rfl hs.range (by simpa using hf) hen rfl

end

end Sys2Proof.Machine
end

section
/-! PROOF. Every instruction keeps the invariant of 10_state.md R58: a command is accepted from rest, and an event is answered
within an operation. -/

namespace Sys2Proof.Machine

section
variable {s t : State}

/-! ### The commands and PULLUP_END -/

/-- The end of the power phase: PUT and PG are idle, and a WRITE's end leaves no SEARCH (41_bit_io.md R167). -/
theorem State.Inv.endPullup_inv (hs : s.Inv) (ha : s.Answers) (hop : s.status.op = .pullup) : s.endPullup.Inv := by
  have hp := (hs.control ha.1).phase_idle_of_pullup hop
  have hn := hs.needPullup_false ha.1 (by simp [hop])
  obtain ⟨hparams, hmem, hrange, hhosts, -, hcontrol⟩ := hs
  obtain ⟨⟨-, hrun, -⟩, ⟨hlife, hbound, -⟩, -, hseq⟩ := hcontrol ha.1
  have hstop : s.pgctl.run = false := by simpa [hop] using hrun
  simp only [State.sequenceOk, hop, hstop, Bool.or_false, Bool.and_eq_true, Bool.not_eq_true'] at hseq
  have hrest : s.endPullup.AtRest := {
    params := hparams, mem := hmem, range := hrange, hosts := hhosts, bsm := ha.2, waiter := rfl, op := rfl
    phase := hp, needPullup := hn, run := hstop, sampleEn := hseq.2, slotOpen := hseq.1
    puAsserted := rfl, put := rfl }
  exact hrest.inv (by simp [State.endPullup]) (iff_of_true (hbound.2 (hlife (by simp [hop]))) rfl)

/-- While no host waits, the machine is at rest. -/
theorem State.Inv.atRest (hs : s.Inv) (hv : s.fault.valid = false) (hw : s.status.waiter = false) : s.AtRest := by
  obtain ⟨hparams, hmem, hrange, hhosts, hbsm, hcontrol⟩ := hs
  obtain ⟨⟨hwait, hrun, -, hpu, hput⟩, ⟨-, -, hneed, -⟩, -, hseq⟩ := hcontrol hv
  obtain ⟨hop, hp⟩ : s.status.op = .none ∧ s.search.phase = .idle := by simpa [hw] using hwait
  have hstop : s.pgctl.run = false := by simpa [hop] using hrun
  simp only [State.sequenceOk, hop, hstop, Bool.or_false, Bool.and_eq_true, Bool.not_eq_true'] at hseq
  exact {
    params := hparams, mem := hmem, range := hrange, hosts := hhosts, bsm := by simpa [hw] using hbsm
    waiter := hw, op := hop, phase := hp, needPullup := by simpa [hop] using hneed, run := hstop
    sampleEn := hseq.2, slotOpen := hseq.1, puAsserted := by simpa [hop] using hpu, put := by simpa [hop] using hput }

/-- A blocking command is accepted in READY, and its host waits from then on. -/
theorem State.Inv.block_between (hs : s.Inv) (hv : s.fault.valid = false) (hw : s.status.waiter = false)
    (hst : s.status.state = .ready) : s.block.Between := by
  obtain ⟨-, ⟨-, hbound, -⟩, -, -⟩ := hs.control hv
  exact { hs.atRest hv hw with waiter := rfl, state := hst, bound := hbound.2 (.inl hst) }

/-- A count that READ or WRITE accepts fits STATUS.bytes, and its buffer starts at an address (30_encoding.md R103). -/
theorem State.count_inRange (hok : s.params.ok = true) (hc : s.countBad = false)
    (hv : s.validRange s.addrOperand s.countOperand = true) :
    (BitVec.ofNat 16 s.countOperand).toNat ≤ s.params.countMax ∧ BitVec.ofNat 16 s.countOperand ≠ 0 ∧
      s.arg0.toNat < 2 ^ s.params.addrW := by
  obtain ⟨hbits, -, hmax, -⟩ := Params.ok_iff.1 hok
  simp only [State.countBad, Bool.or_eq_false_iff, decide_eq_false_iff_not, not_lt] at hc
  have hend := (s.validRange_bounds _ _ hv).2
  have hfit : s.countOperand < 2 ^ 16 := by
    have := Nat.pow_le_pow_right (n := 2) (by omega) hbits
    omega
  have hcount : (BitVec.ofNat 16 s.countOperand).toNat = s.countOperand := by
    rw [BitVec.toNat_ofNat, Nat.mod_eq_of_lt hfit]
  have haddr : s.addrOperand = s.arg0.toNat := rfl
  refine ⟨by omega, fun h0 => ?_, by omega⟩
  rw [h0] at hcount
  exact hc.1 hcount.symm

theorem State.Inv.acceptRead_inv (hs : s.Inv) (hv : s.fault.valid = false) (hw : s.status.waiter = false)
    (hst : s.status.state = .ready) (hc : s.countBad = false)
    (hvalid : s.validRange s.addrOperand s.countOperand = true) : s.acceptRead.Inv := by
  have hb := hs.block_between hv hw hst
  have hrest := hs.atRest hv hw
  obtain ⟨hcount, h0, haddr⟩ := State.count_inRange hs.params_ok hc hvalid
  obtain ⟨-, hfound, hmax, -, hrange⟩ := hs.range
  refine State.Between.arm_inv ?_ (by decide) (by simp [hrest.needPullup]) ?_ ((State.sequenceOk_read rfl).2 ?_)
  · exact { hb with range := ⟨hcount, hfound, hmax, haddr, hrange⟩ }
  · simp [State.PhaseMatches, hrest.phase]
  · simpa using h0

/-- ARG2's duration is taken on PU_BITS bits (30_encoding.md R103). -/
theorem State.durationOperand_lt (s : State) : s.durationOperand.toNat < 2 ^ s.params.puBits :=
  lt_of_le_of_lt (by simpa [State.durationOperand] using Nat.mod_le _ _)
    (Nat.mod_lt s.arg2.toNat (Nat.two_pow_pos s.params.puBits))

/-- An accepted WRITE asks for a power phase only where STRONG_PULLUP is true. -/
theorem State.Inv.writeAccepted_inv (hs : s.Inv) (hv : s.fault.valid = false) (hw : s.status.waiter = false)
    (hst : s.status.state = .ready) (hc : s.countBad = false)
    (hvalid : s.validRange s.addrOperand s.countOperand = true) (b : Byte) : (s.writeAccepted b).Inv := by
  have hb := hs.block_between hv hw hst
  have hrest := hs.atRest hv hw
  obtain ⟨hcount, h0, haddr⟩ := State.count_inRange hs.params_ok hc hvalid
  obtain ⟨-, hfound, hmax, -, hrbuf, -, hmarks⟩ := hs.range
  refine State.Between.arm_inv ?_ (by decide) (fun hn => ⟨rfl, hrest.phase, ?_⟩) ?_ ((State.sequenceOk_write rfl).2 ?_)
  · exact { hb with range := ⟨hcount, hfound, hmax, haddr, hrbuf, s.durationOperand_lt, hmarks⟩ }
  · simp only [State.needPullupFor, State.hasPullup, Bool.and_eq_true] at hn
    obtain ⟨-, ⟨hstrong, -⟩, -⟩ := hn
    exact hstrong
  · simp [State.PhaseMatches, hrest.phase]
  · exact ⟨fun _ => rfl, rfl, fun h => absurd h h0, fun _ => ⟨rfl, .inl rfl⟩⟩

/-- An accepted SEARCH stands between operations, with no code counted yet (42_search_rom.md R200). -/
theorem State.Inv.searchInit_between (hs : s.Inv) (hv : s.fault.valid = false) (hw : s.status.waiter = false)
    (hst : s.status.state = .ready) (hc : s.maxBad = false)
    (hvalid : s.validRange s.addrOperand (8 * s.countOperand) = true) : s.searchInit.Between := by
  obtain ⟨hbytes, -, -, hcursor, -, hpu, -⟩ := hs.range
  simp only [State.maxBad, Bool.or_eq_false_iff, decide_eq_false_iff_not, not_lt] at hc
  have hmax : (BitVec.ofNat 16 s.countOperand).toNat ≤ s.params.devMax :=
    le_trans (by simpa using Nat.mod_le _ _) hc.2
  have haddr : s.arg0.toNat < 2 ^ s.params.addrW := by
    have hend : s.arg0.toNat + 8 * s.countOperand ≤ _ := (s.validRange_bounds _ _ hvalid).2
    omega
  exact { hs.block_between hv hw hst with
    range := ⟨hbytes, by simp [State.searchInit], hmax, hcursor, haddr, hpu, noBranch_inRange, noBranch_inRange⟩ }

/-! ### Every instruction -/

theorem State.AnswersMaster.op_running {r : Option State} (h : s.AnswersMaster r) :
    s.status.op ≠ .none ∧ s.status.op ≠ .pullup := by
  cases h <;> simp [*]

theorem State.AnswersMaster.inv {r : Option State} (hs : s.Inv) (hm : s.MasterReady)
    (h : s.latchSlot.AnswersMaster r) (hr : r = some t) : t.Inv := by
  cases h with
  | reset hop => exact hs.masterReset_inv hm hop hr
  | read hop => exact hs.masterRead_inv hm hop hr
  | write hop => exact hs.masterWrite_inv hm hop hr
  | triplet hop => exact hs.masterTriplet_inv hm hop hr

theorem State.AnswersSample.op_running {pin : Bool} {r : Option State} (h : s.AnswersSample pin r) :
    s.status.op ≠ .none ∧ s.status.op ≠ .pullup := by
  cases h <;> simp [*]

theorem State.AnswersSample.inv {pin : Bool} {r : Option State} (hs : s.Inv) (hm : s.SampleReady)
    (h : s.closeSlot.AnswersSample pin r) (hr : r = some t) : t.Inv := by
  cases h with
  | reset hop => cases hr; exact hs.sampleReset_inv hm hop pin
  | read hop => exact hs.sampleRead_inv hm hop hr
  | triplet hop => cases hr; exact hs.sampleTriplet_inv hm hop pin

/-- START latches `bound` = 1 (43_lifecycle.md R251). -/
theorem boundConfig_bound (c : Word) : (boundConfig c).getLsbD 12 = true := by
  rw [boundConfig, BitVec.getLsbD_append]
  rfl

/-- Every response keeps the invariant. -/
theorem State.Runs.inv {i : Instr} {r : Option State} (hs : s.Inv) (hv : s.fault.valid = false) (h : s.Runs i r)
    (hr : r = some t) : t.Inv := by
  cases h with
  | objinit hw =>
    cases hr
    have hrest := hs.atRest hv hw
    refine State.AtRest.inv (s := s.objinit) { hrest with
      waiter := rfl, op := rfl, phase := rfl, needPullup := rfl, run := rfl, sampleEn := rfl, puAsserted := rfl
      range := ?_ } (by simp [State.objinit]) (by simp [State.objinit, State.bound])
    simp [State.InRange, State.objinit]
  | start hw =>
    cases hr
    exact State.AtRest.inv { hs.atRest hv hw with run := rfl, sampleEn := rfl, slotOpen := rfl, puAsserted := rfl }
      (by simp) (iff_of_true (boundConfig_bound s.arg0) rfl)
  | stop hw =>
    cases hr
    exact State.AtRest.inv { hs.atRest hv hw with run := rfl, sampleEn := rfl, slotOpen := rfl, puAsserted := rfl }
      (by simp) (by simp [State.bound])
  | reset hw hst =>
    cases hr
    have hrest := hs.atRest hv hw
    exact (hs.block_between hv hw hst).armReset_inv hrest.needPullup (.inl hrest.phase)
  | read hw hst hc hvalid => cases hr; exact hs.acceptRead_inv hv hw hst hc hvalid
  | write hw hst hc hvalid b => cases hr; exact hs.writeAccepted_inv hv hw hst hc hvalid b
  | search hw hst hc hvalid =>
    cases hr
    exact (hs.searchInit_between hv hw hst hc hvalid).srcNextPass_inv (hs.atRest hv hw).needPullup
  | crc8 => cases hr; exact hs
  | master hm ha => exact ha.inv hs hm hr
  | sample pin hm ha => exact ha.inv hs hm hr
  | pullupEnd ha hop => cases hr; exact hs.endPullup_inv ha hop

/-- BSM gets stuck only in an operation, so the host waits (20_memory.md R87). -/
theorem State.Runs.waiter_of_withdrawn {i : Instr} {r : Option State} (hs : s.Inv) (hv : s.fault.valid = false)
    (h : s.Runs i r) (hr : r = none) : s.status.waiter = true := by
  obtain ⟨⟨hwait, -⟩, -⟩ := hs.control hv
  cases h with
  | master _ ha => exact hwait.2 (.inl ha.op_running.1)
  | sample _ _ ha => exact hwait.2 (.inl ha.op_running.1)
  | _ => cases hr

/-- A recorded fault ends the control invariant, and keeps the rest (60_exceptions.md R271). -/
theorem State.Inv.raiseFault_inv (hs : s.Inv) (c : FaultCause) (info : Byte) : (s.raiseFault c info).Inv := by
  obtain ⟨hparams, hmem, hrange, hhosts, hbsm, -⟩ := hs
  exact ⟨hparams, hmem, hrange, hhosts, hbsm, by simp⟩

/-- Every instruction keeps the invariant. -/
theorem exec_inv {i : Instr} (hs : s.Inv) (h : exec i s = .next t) : t.Inv := by
  rcases exec_goesOn h with rfl | ⟨c, info, rfl⟩ | ⟨hv, r, hrun, hr⟩
  · exact hs
  · exact hs.raiseFault_inv c info
  · rcases (s.respond_eq_next t r).1 hr with hsome | ⟨hnone, rfl⟩
    · exact hrun.inv hs hv hsome
    · have hw := hrun.waiter_of_withdrawn hs hv hnone
      obtain ⟨hparams, hmem, hrange, hhosts, -, hcontrol⟩ := hs
      exact ⟨hparams, hmem, hrange, hhosts, fun _ => hw, hcontrol⟩

end

end Sys2Proof.Machine
end

section
/-! PROOF. O53 and O52: the invariant of 10_state.md R58 holds at reset, and every step keeps it: what arrives, by the agent
that it comes from, and the moves of PG and PUT. -/

namespace Sys2Proof.Machine

section
variable {s t : State}

theorem State.Inv.writeReg_inv (hs : s.Inv) {who : HostId} {r : Reg} {v : Word} (h : s.writeReg who r v = .next t) :
    t.Inv := by
  unfold State.writeReg at h
  by_cases hv : s.fault.valid = true
  · rw [if_pos hv] at h
    cases h
    exact hs
  · rw [if_neg hv] at h
    cases r
    case cmd =>
      simp only [State.writeCmd] at h
      split at h
      · exact exec_inv (s := s.callBy who) hs h
      · cases h
        exact hs.raiseFault_inv _ _
    case arg0 | arg1 | arg2 =>
      simp only at h
      split_ifs at h <;> cases h
      · exact hs.raiseFault_inv _ _
      · exact hs
    all_goals
      cases h
      exact hs

/-- A host that is not stuck yet is listed once more. -/
theorem State.Inv.stickHost_inv (hs : s.Inv) (who : HostId) : (s.stickHost who).Inv := by
  obtain ⟨hparams, hmem, hrange, ⟨hstuck, hhalts⟩, hbsm, hcontrol⟩ := hs
  refine ⟨hparams, hmem, hrange, ⟨?_, hhalts⟩, hbsm, hcontrol⟩
  simp only [State.stickHost_stuck, StuckAgents.add]
  split_ifs with hin
  · exact hstuck
  · exact List.nodup_cons.2 ⟨by simpa using hin, hstuck⟩

theorem State.Inv.haltHost_inv (hs : s.Inv) {who : HostId} (hd : s.isDone who = false) : (s.haltHost who).Inv := by
  obtain ⟨hparams, hmem, hrange, ⟨hstuck, hhalts⟩, hbsm, hcontrol⟩ := hs
  refine ⟨hparams, hmem, hrange, ⟨hstuck, ?_⟩, hbsm, hcontrol⟩
  have hnew : ∀ h ∈ s.halts, h.host ≠ who := by
    simpa [State.isDone, State.hasHalted] using (Bool.or_eq_false_iff.1 hd).2
  simpa [List.nodup_append, hhalts] using hnew

theorem State.Inv.hostStore_inv (hs : s.Inv) {who : HostId} {a : Word} {b : Byte}
    (h : s.hostStore who a b = .next t) : t.Inv := by
  unfold State.hostStore at h
  split_ifs at h
  · cases h
    exact hs.stickHost_inv who
  · split at h
    · cases h
    · rename_i u hw
      obtain ⟨-, rfl⟩ := (State.memWrite_eq_some _ _ _ _).1 hw
      cases h
      obtain ⟨hparams, hmem, hrest⟩ := hs
      exact ⟨hparams, Memory.write_wf _ _ _ hmem, hrest⟩

theorem State.Inv.hostLoad_inv (hs : s.Inv) {who : HostId} {a : Word} (h : s.hostLoad who a = .next t) : t.Inv := by
  unfold State.hostLoad at h
  split_ifs at h
  · cases h
    exact hs.stickHost_inv who
  · split at h <;> cases h
    exact hs

theorem State.Inv.hostAct_inv (hs : s.Inv) {who : HostId} {act : HostAction} (hd : s.isDone who = false)
    (h : s.hostAct who act = .next t) : t.Inv := by
  cases act with
  | write off size v =>
    simp only [State.hostAct] at h
    split at h
    · cases h
      exact hs.stickHost_inv who
    · exact hs.writeReg_inv h
  | read off size =>
    simp only [State.hostAct] at h
    split at h <;> cases h
    · exact hs.stickHost_inv who
    · exact hs
  | store a b => exact hs.hostStore_inv h
  | load a => exact hs.hostLoad_inv h
  | halt =>
    cases h
    exact hs.haltHost_inv hd

/-- After a power-on the machine is at rest, whatever it did before (70_reset_and_hazards.md R300; log 5, log 31). -/
theorem State.powerOn_inv (hparams : s.params.ok = true) (hmem : s.mem.wf = true) (hhosts : s.HostsOnce) :
    s.powerOn.Inv := by
  have hrest : s.powerOn.AtRest := {
    params := hparams, mem := hmem, hosts := hhosts, bsm := rfl, waiter := rfl, op := rfl, phase := rfl
    needPullup := rfl, run := rfl, sampleEn := rfl, slotOpen := rfl, puAsserted := rfl, put := rfl
    range := by simp [State.InRange, State.powerOn, State.reset, Status.powerOn, SearchReg.powerOn] }
  exact hrest.inv (by simp [State.powerOn, State.reset, Status.powerOn])
    (by simp [State.bound, State.powerOn, State.reset, Status.powerOn])

theorem State.Inv.deliverEvent_inv (hs : s.Inv) {w : BitVec 3} (h : s.deliverEvent w = .next t) : t.Inv := by
  unfold State.deliverEvent at h
  split at h
  · exact exec_inv hs h
  all_goals cases h
  exact hs

theorem State.Inv.environment_inv (hs : s.Inv) (h : s.environment = .next t) : t.Inv := by
  unfold State.environment at h
  split_ifs at h
  · exact exec_inv (s := { s with draws := s.draws + 1 }) hs h
  · exact exec_inv hs h
  · exact exec_inv hs h

theorem State.Inv.deliver_inv (hs : s.Inv) {i : Input} (h : s.deliver i = .next t) : t.Inv := by
  cases i with
  | host who act =>
    simp only [State.deliver] at h
    split_ifs at h with hd
    · cases h
      exact hs
    · exact hs.hostAct_inv (by simpa using hd) h
  | event w => exact hs.deliverEvent_inv h
  | turn =>
    simp only [State.deliver] at h
    split_ifs at h
    · exact hs.environment_inv h
    · cases h
      exact hs
  | memMap regions =>
    cases h
    exact hs
  | powerOn =>
    cases h
    obtain ⟨hparams, hmem, -, hhosts, -⟩ := hs
    exact State.powerOn_inv hparams hmem hhosts

theorem State.Inv.quiet_inv (hs : s.Inv) (h : s.quiet = .next t) : t.Inv := by
  unfold State.quiet at h
  split_ifs at h
  cases h
  exact hs

end

/-- Settles O53: what a step takes is an input, a move of PG or PUT, or nothing, and each keeps the invariant. -/
theorem stepKeepsTheInvariant : Obligations.StepKeepsTheInvariant := by
  intro s t hs h
  simp only [step, State.advance] at h
  split at h
  · rename_i i rest _
    exact State.Inv.deliver_inv (s := { s with inputs := rest }) hs h
  · split_ifs at h
    · exact hs.environment_inv h
    · exact hs.quiet_inv h

/-- Settles O52: reset is a power-on of a machine with the standard parameters and empty memory, and BufferOk asks
nothing of a machine that holds no buffer. -/
theorem invariantHoldsAtReset : Obligations.InvariantHoldsAtReset :=
  ⟨State.powerOn_inv (s := State.reset) (by decide) rfl (by decide), by decide⟩

end Sys2Proof.Machine
end

section
/-! PROOF. O9: PG and PUT keep their contracts (41_bit_io.md R152; 60_exceptions.md R283, R285). -/

namespace Sys2Proof.Machine

/-- PG or PUT moves where it runs and OWE answers events. -/
theorem State.environmentMoves_of_answers {s : State} (ha : s.Answers) (h : s.pgctl.run = true ∨ s.put.isSome = true) :
    s.environmentMoves = true := by
  simpa [State.environmentMoves, State.ignoresEvents, ha.1, ha.2] using h

theorem State.environment_of_sampleReady {s : State} (h : s.SampleReady) :
    s.environment = exec (.sample (Config.pinDraw s.draws)) { s with draws := s.draws + 1 } := by
  obtain ⟨-, hrun, -⟩ := id h
  simp [State.environment, hrun, s.sampleDue_of_ready h]

theorem State.environment_of_masterReady {s : State} (h : s.MasterReady) :
    s.environment = exec (.master false) s := by
  obtain ⟨-, hrun, hdue⟩ := h
  have hnot : s.sampleDue = false := by rcases hdue with hdue | hdue <;> simp [State.sampleDue, hdue]
  simp [State.environment, hrun, hnot]

/-- With nothing to take and PG and PUT idle, a step is quiet. -/
theorem step_of_noInputs (s : State) (hi : s.inputs = []) (hm : s.environmentMoves = false) : step s = s.quiet := by
  have ha : s.arrival = none := by simp [State.arrival, State.firstFree, hi]
  simp [step, State.advance, ha, hm]

/-- Settles O9: where nothing arrives the step is PG's or PUT's move, and an idle machine without a blocked host has no
input left. -/
theorem environmentKeepsItsContract : Obligations.EnvironmentKeepsItsContract := by
  intro s hn ha
  have moves (h : s.pgctl.run = true ∨ s.put.isSome = true) : step s = s.environment :=
    (step_of_nothingArrives s hn (State.environmentMoves_of_answers ha h)).2
  refine ⟨fun h => ?_, fun h => ?_, fun hrun hput => ?_, fun hrun hput hw hstuck => ?_⟩
  · obtain ⟨-, hrun, -⟩ := id h
    rw [moves (.inl hrun), State.environment_of_sampleReady h]
  · obtain ⟨-, hrun, -⟩ := id h
    rw [moves (.inl hrun), State.environment_of_masterReady h]
  · rw [moves (.inr hput), State.environment]
    simp [hrun]
  · rcases hn with hi | ⟨act, rest, -, hwait, -⟩
    · rw [step_of_noInputs s hi (by simp [State.environmentMoves, hrun, hput])]
      simp [State.quiet, ha.2, hw, hstuck]
    · simp [hw] at hwait

end Sys2Proof.Machine
end

section
/-! PROOF. O44: the packed register words (10_state.md R32 to R57; 60_exceptions.md R270). Each word is said once as the
concatenation of its fields at the sum of their widths, the form that the library's rules for `++` apply to. -/

namespace Sys2Proof.Machine

theorem Status.word_eq (r : Status) :
    r.word = (r.bytes ++ 0#4 ++ BitVec.ofBool r.waiter ++ r.op.code ++ BitVec.ofBool r.slavePresent ++
      BitVec.ofBool r.needPullup ++ BitVec.ofBool r.finalTimeslot ++ r.bit ++ r.state.code).cast rfl := rfl

theorem SearchReg.word_eq (r : SearchReg) :
    r.word = (r.devicesFound ++ r.phase.code ++ r.rombit ++ r.bitBuf ++ r.bitStep.code ++ r.result.code ++
      r.kind.code ++ BitVec.ofBool r.singleDevice).cast rfl := rfl

theorem BranchReg.word_eq (r : BranchReg) : r.word = (0#16 ++ r.prevZero ++ r.lastZero).cast rfl := rfl

theorem FaultReg.word_eq (r : FaultReg) :
    r.word = (0#16 ++ r.info ++ r.cause.code ++ 0#3 ++ BitVec.ofBool r.valid).cast rfl := rfl

theorem PgCtl.word_eq (r : PgCtl) :
    r.word = (0#24 ++ BitVec.ofBool r.puAsserted ++ BitVec.ofBool r.sampleSel ++ BitVec.ofBool r.sampleEn ++
      r.nextLow.code ++ BitVec.ofBool r.periodSel ++ BitVec.ofBool r.run).cast rfl := rfl

/-- ROM_HI:ROM_LO and PREV_HI:PREV_LO show the whole code (10_state.md R56, R57). -/
theorem append_halves (v : BitVec 64) : (v.extractLsb' 32 32 ++ v.extractLsb' 0 32 : BitVec 64) = v := by
  rw [BitVec.extractLsb'_append_extractLsb'_eq_extractLsb' (by decide), BitVec.extractLsb'_eq_self]

/-- CONFIG is read zero-extended (10_state.md R44). -/
theorem setWidth_fields (c : BitVec 13) :
    (c.setWidth 32).extractLsb' 0 13 = c ∧ (c.setWidth 32).extractLsb' 13 19 = 0 ∧
      (c.setWidth 32).getLsbD 12 = c.getLsbD 12 := by
  refine ⟨?_, ?_, ?_⟩
  · rw [BitVec.extractLsb'_setWidth_of_le (by decide), BitVec.extractLsb'_eq_self]
  · refine BitVec.eq_of_getLsbD_eq fun i _ => ?_
    simp only [BitVec.getLsbD_extractLsb', BitVec.getLsbD_setWidth]
    simp
  · simp

/-- Settles O44: the codes by evaluation, and each field by where the fields below it in its word end. -/
theorem packedRegisterWords : Obligations.PackedRegisterWords := by
  refine ⟨rfl, rfl, rfl, rfl, rfl, rfl, rfl, rfl, fun s => ⟨rfl, rfl, rfl, rfl, rfl, ?_⟩⟩
  obtain ⟨hconfig, hreserved, hbound⟩ := setWidth_fields s.config
  refine ⟨hconfig, hreserved, hbound, ?_⟩
  and_intros
  all_goals
    simp (disch := decide) only [State.readReg, Status.word_eq, SearchReg.word_eq, BranchReg.word_eq,
      FaultReg.word_eq, PgCtl.word_eq, BitVec.extractLsb'_cast, BitVec.getLsbD_cast,
      BitVec.extractLsb'_append_eq_of_add_le, BitVec.extractLsb'_append_eq_of_le, BitVec.getLsbD_append, append_halves]
      <;> simp

end Sys2Proof.Machine
end

section
/-! PROOF. O48: only the slot events store to host memory (20_memory.md R97). -/

namespace Sys2Proof.Machine

/-- The capacity check stores nothing (42_search_rom.md R202). -/
theorem State.srcNextPass_mem (s : State) : s.srcNextPass.mem = s.mem := by
  unfold State.srcNextPass
  split_ifs
  · rfl
  · rfl

/-- The response to a command or to PULLUP_END stores nothing. -/
theorem State.Runs.mem_eq {s t : State} {i : Instr} {r : Option State} (h : s.Runs i r) (hr : r = some t)
    (hm : i ≠ .master false) (hp : ∀ pin, i ≠ .sample pin) : t.mem = s.mem := by
  cases h with
  | search => cases hr; exact s.searchInit.srcNextPass_mem
  | master => exact absurd rfl hm
  | sample pin => exact absurd rfl (hp pin)
  | _ => cases hr; rfl

/-- Only MASTER and SAMPLE can store: neither fault entry nor a BSM that gets stuck does. -/
theorem exec_mem_eq {i : Instr} {s t : State} (h : exec i s = .next t) (hm : i ≠ .master false)
    (hp : ∀ pin, i ≠ .sample pin) : t.mem = s.mem := by
  rcases exec_goesOn h with rfl | ⟨c, info, rfl⟩ | ⟨-, r, hrun, hr⟩
  · rfl
  · rfl
  · rcases (s.respond_eq_next t r).1 hr with hsome | ⟨-, rfl⟩
    · exact hrun.mem_eq hsome hm hp
    · rfl

/-- Settles O48: none of the nine is a MASTER or a SAMPLE. -/
theorem commandsStoreNothing : Obligations.CommandsStoreNothing := by
  intro i s t hi h x
  have hmem : t.mem = s.mem := by
    rcases hi with rfl | rfl | rfl | rfl | rfl | rfl | rfl | rfl | rfl <;>
      exact exec_mem_eq h (by simp) (by simp)
  rw [hmem]

end Sys2Proof.Machine
end

section
/-! PROOF. O45: the buffer OWE owns from the acceptance of READ, WRITE or SEARCH (20_memory.md R86), and a host's byte
accesses outside the register block (R91; 93 U4; log 13, log 26). -/

namespace Sys2Proof.Machine

/-! ### What OWE owns -/

theorem State.ownsByte_of_noWaiter {s : State} (h : s.status.waiter = false) (x : Nat) : s.ownsByte x = false := by
  simp [State.ownsByte, h]

/-- With no SEARCH in flight, OWE owns the ARG0, ARG1 range of any operation but a RESET. -/
theorem State.ownsByte_iff_args {s : State} (hw : s.status.waiter = true) (hp : s.search.phase = .idle) (x : Nat) :
    s.ownsByte x = true ↔ s.status.op ≠ .reset ∧ s.arg0.toNat ≤ x ∧ x < s.arg0.toNat + s.arg1.toNat := by
  simp [State.ownsByte, hw, hp, and_assoc]

/-- While a SEARCH is in flight, OWE owns its result buffer. -/
theorem State.ownsByte_iff_results {s : State} (hw : s.status.waiter = true) (hp : s.search.phase ≠ .idle) (x : Nat) :
    s.ownsByte x = true ↔ s.rbuf.toNat ≤ x ∧ x < s.rbuf.toNat + 8 * s.rmax.toNat := by
  simp [State.ownsByte, hw, hp]

/-! ### Acceptance -/

/-- A command issued with no fault recorded, and that records none, was accepted: no check of its failed. -/
theorem State.issue_accepts {s t : State} {info : Byte} {checks : List (Bool × FaultCause)} {acc : Result}
    (h : s.issue info checks acc = .next t) (hv : s.fault.valid = false) (ht : t.fault.valid = false) :
    (∀ p ∈ checks, p.1 = false) ∧ acc = .next t := by
  rcases s.issue_cases info checks acc with ⟨hv', -⟩ | ⟨-, c, -, hi⟩ | ⟨-, hc, hi⟩
  · simp [hv] at hv'
  · rw [hi] at h
    cases h
    simp at ht
  · exact ⟨(firstCause_eq_none checks).1 hc, hi.symm.trans h⟩

/-- A maximum that SEARCH accepts fits rmax (30_encoding.md R103). -/
theorem State.rmax_of_maxOk {s : State} (hok : s.params.ok = true) (hc : s.maxBad = false) :
    s.searchInit.rmax.toNat = s.arg1.toNat ∧ s.searchInit.rmax ≠ 0 := by
  obtain ⟨-, -, -, hbits, -, hmax, -⟩ := Params.ok_iff.1 hok
  simp only [State.maxBad, Bool.or_eq_false_iff, decide_eq_false_iff_not, not_lt] at hc
  have hfit : s.countOperand < 2 ^ 16 := by
    have := Nat.pow_le_pow_right (n := 2) (by omega) hbits
    omega
  have hr : s.searchInit.rmax.toNat = s.countOperand := by
    simp only [State.searchInit, BitVec.toNat_ofNat, Nat.mod_eq_of_lt hfit]
  refine ⟨hr, fun h0 => hc.1 ?_⟩
  rw [← hr, h0]
  rfl

/-- An accepted SEARCH starts its first pass: there is room for one code (42_search_rom.md R202). -/
theorem State.searchAccepted_eq {s : State} (hok : s.params.ok = true) (hc : s.maxBad = false) :
    s.searchInit.srcNextPass = s.searchInit.srcPassStart :=
  if_neg fun h => (State.rmax_of_maxOk hok hc).2 h.symm

/-- From its acceptance on, OWE owns the buffer of a READ (20_memory.md R86). -/
theorem execRead_owns {s t : State} (hv : s.fault.valid = false) (hp : s.search.phase = .idle)
    (ht : t.fault.valid = false) (h : exec .read s = .next t) (x : Nat) :
    t.ownsByte x = true ↔ s.arg0.toNat ≤ x ∧ x < s.arg0.toNat + s.arg1.toNat := by
  obtain ⟨-, ha⟩ := State.issue_accepts h hv ht
  cases ha
  simpa [State.acceptRead] using State.ownsByte_iff_args (s := s.acceptRead) rfl hp x

/-- From its acceptance on, OWE owns the buffer of a WRITE (20_memory.md R86). -/
theorem execWrite_owns {s t : State} (hv : s.fault.valid = false) (hp : s.search.phase = .idle)
    (ht : t.fault.valid = false) (h : exec .write s = .next t) (x : Nat) :
    t.ownsByte x = true ↔ s.arg0.toNat ≤ x ∧ x < s.arg0.toNat + s.arg1.toNat := by
  obtain ⟨hc, ha⟩ := State.issue_accepts h hv ht
  simp only [List.mem_cons, List.not_mem_nil, or_false, forall_eq_or_imp, forall_eq, Bool.not_eq_false'] at hc
  obtain ⟨-, -, hcount, hvalid⟩ := hc
  rw [State.acceptWrite_eq (State.memRead_of_countOk hcount hvalid)] at ha
  cases ha
  simpa [State.writeAccepted] using State.ownsByte_iff_args (s := s.writeAccepted _) rfl hp x

/-- From its acceptance on, OWE owns the result buffer of a SEARCH (20_memory.md R86). -/
theorem execSearch_owns {s t : State} (hv : s.fault.valid = false) (hok : s.params.ok = true)
    (ht : t.fault.valid = false) (h : exec .search s = .next t) (x : Nat) :
    t.ownsByte x = true ↔ s.arg0.toNat ≤ x ∧ x < s.arg0.toNat + 8 * s.arg1.toNat := by
  obtain ⟨hc, ha⟩ := State.issue_accepts h hv ht
  simp only [List.mem_cons, List.not_mem_nil, or_false, forall_eq_or_imp, forall_eq] at hc
  obtain ⟨-, -, hmax, -⟩ := hc
  rw [State.searchAccepted_eq hok hmax] at ha
  cases ha
  have howns := State.ownsByte_iff_results (s := s.searchInit.srcPassStart) rfl
    (by simp [State.srcPassStart, State.armReset, State.srcPassInit]) x
  rwa [show s.searchInit.srcPassStart.rmax.toNat = s.arg1.toNat from (State.rmax_of_maxOk hok hmax).1] at howns

/-! ### A host's byte accesses -/

theorem State.not_inRegisterBlock {s : State} {a : Nat}
    (h : a < s.params.oweBase.toNat ∨ s.params.oweBase.toNat + 0x3F < a) : s.inRegisterBlock a = false := by
  simp only [State.inRegisterBlock, Bool.and_eq_false_iff, decide_eq_false_iff_not]
  omega

section
variable {s : State} {a : Word} (who : HostId) (b : Byte)

/-- A store to an owned byte is refused, and one to no memory stops; else the byte is written. -/
theorem State.hostStore_outsideBlock (hblock : s.inRegisterBlock a.toNat = false) :
    (s.ownsByte a.toNat = true → s.hostStore who a b = .refused .bufferAliased) ∧
    (s.ownsByte a.toNat = false → s.byteAdmitted a.toNat = false →
      s.hostStore who a b = .fault .hostAccessNotAdmitted) ∧
    (s.ownsByte a.toNat = false → s.byteAdmitted a.toNat = true →
      s.hostStore who a b = .next { s with mem := s.mem.write a.toNat b }) := by
  refine ⟨fun ho => ?_, fun ho ha => ?_, fun ho ha => ?_⟩ <;> simp [State.hostStore, State.memWrite, *]

/-- A load from an owned byte is refused, and one from no memory stops; else the byte is returned. -/
theorem State.hostLoad_outsideBlock (hblock : s.inRegisterBlock a.toNat = false) :
    (s.ownsByte a.toNat = true → s.hostLoad who a = .refused .bufferAliased) ∧
    (s.ownsByte a.toNat = false → s.byteAdmitted a.toNat = false →
      s.hostLoad who a = .fault .hostAccessNotAdmitted) ∧
    (s.ownsByte a.toNat = false → s.byteAdmitted a.toNat = true →
      s.hostLoad who a = .next { s with readData := (s.mem.read a.toNat).setWidth 32 }) := by
  refine ⟨fun ho => ?_, fun ho ha => ?_, fun ho ha => ?_⟩ <;> simp [State.hostLoad, State.memRead, *]

end

/-- Settles O45: what is owned by the definition, its start by each command's acceptance, and a host's accesses by what
a store and a load do. -/
theorem hostAccessesKeepOutOfOwnedBuffers : Obligations.HostAccessesKeepOutOfOwnedBuffers := by
  refine ⟨fun s x => ⟨?noWaiter, ?reset, ?args, ?results⟩, fun s t x hs hp hok ht => ⟨?readWrite, ?search⟩,
    fun s who a b rest hact hm haddr => ⟨?store, ?load⟩⟩
  case noWaiter => exact fun hw => State.ownsByte_of_noWaiter hw x
  case reset =>
    intro hw hp hop
    simpa [hop] using State.ownsByte_iff_args hw hp x
  case args =>
    intro hw hp hop
    have hne : s.status.op ≠ .reset := by rcases hop with hop | hop | hop <;> simp [hop]
    simpa [hne] using State.ownsByte_iff_args hw hp x
  case results => exact fun hw hp => State.ownsByte_iff_results hw hp x
  case readWrite =>
    rintro (h | h)
    · exact execRead_owns hs.1 hp ht h x
    · exact execWrite_owns hs.1 hp ht h x
  case search => exact fun h => execSearch_owns hs.1 hok ht h x
  case store =>
    intro hi
    rw [(step_host s who _ rest hi).1 hact]
    obtain ⟨howned, hno, hstored⟩ := State.hostStore_outsideBlock (s := { s with inputs := rest }) who b
      (State.not_inRegisterBlock haddr)
    exact ⟨howned, hno, fun ho ha => ⟨_, hstored ho ha, Memory.write_wf _ _ _ hm, fun x => by
      rw [Memory.read_write _ _ _ _ hm]
      simp only [eq_comm]⟩⟩
  case load =>
    intro hi
    rw [(step_host s who _ rest hi).1 hact]
    exact State.hostLoad_outsideBlock (s := { s with inputs := rest }) who (State.not_inRegisterBlock haddr)

end Sys2Proof.Machine
end

section
/-! PROOF. The buffer discipline of 20_memory.md R86, R87, in an instruction: every response has its step, keeps the
discipline, and stores only in the buffer OWE owns (`State.KeepsBuffer`). -/

namespace Sys2Proof.Machine

/-! ### What the discipline reads -/

/-- What `State.BufferOk` and `State.ownsByte` read of a state, and host memory. -/
structure BufferView where
  course : Course
  cursor : Word
  bytes : BitVec 16
  rbuf : Word
  mem : Memory

/-- The view of a state. -/
def State.bufferView (s : State) : BufferView where
  course := s.course
  cursor := s.cursor
  bytes := s.status.bytes
  rbuf := s.rbuf
  mem := s.mem

/-- The buffer discipline holds after `s` goes to `t`, and every byte that OWE does not own in `s` reads as before. -/
def State.KeepsBuffer (s t : State) : Prop :=
  t.BufferOk ∧ ∀ x, s.ownsByte x = false → t.mem.read x = s.mem.read x

/-- The result buffer of a SEARCH is reachable from end to end. -/
abbrev State.ResultsValid (s : State) : Prop := s.validRange s.rbuf.toNat (8 * s.rmax.toNat) = true

/-- `Valid` depends on the memory map and on ADDR_W only (20_memory.md R87). -/
theorem State.validRange_congr {s t : State} (hp : t.params = s.params) (hm : t.memMap = s.memMap) (a len : Nat) :
    t.validRange a len = s.validRange a len := by
  simp only [State.validRange, State.byteAdmitted, hp, hm]

/-- Outside the slots of READ and WRITE only the result buffer of a SEARCH has to stay reachable. -/
theorem State.bufferOk_of_noCursor {s : State} (hb : s.stuck.bsm = false)
    (hop : s.status.op ≠ .read ∧ s.status.op ≠ .write ∨ s.search.phase ≠ .idle)
    (hr : s.search.phase ≠ .idle → s.ResultsValid) : s.BufferOk := by
  refine ⟨hb, fun _ => ⟨fun hp hrw _ => ?_, hr⟩⟩
  rcases hop with ⟨hread, hwrite⟩ | hphase
  · exact absurd hrw (not_or.2 ⟨hread, hwrite⟩)
  · exact absurd hp hphase

/-- With nothing in flight the discipline asks nothing of a machine that can go on. -/
theorem State.bufferOk_of_idle {s : State} (hb : s.stuck.bsm = false) (hop : s.status.op = .none)
    (hp : s.search.phase = .idle) : s.BufferOk :=
  State.bufferOk_of_noCursor hb (.inl (by simp [hop])) (fun h => absurd hp h)

/-- While a second byte is to come, the cursor moves on without a wrap (00_scope.md R12). -/
theorem State.nextCursor_exact {s : State} {len : Nat} (hok : s.params.ok = true)
    (hv : s.validRange s.cursor.toNat len = true) (hmore : 2 ≤ len) : s.nextCursor.toNat = s.cursor.toNat + 1 := by
  obtain ⟨-, -, -, -, -, -, haddr, -⟩ := Params.ok_iff.1 hok
  have hspace : 2 ^ s.params.addrW ≤ 2 ^ 32 := Nat.pow_le_pow_right (by omega) haddr
  obtain ⟨-, hwrap⟩ := s.validRange_bounds _ _ hv
  rw [State.nextCursor, State.addrAdd_exact s _ 1 (by omega), BitVec.toNat_ofNat, Nat.mod_eq_of_lt (by omega)]

section
variable {s t : State}

theorem State.BufferOk.bsm (hb : s.BufferOk) : s.stuck.bsm = false :=
  let ⟨h, _⟩ := hb
  h

theorem State.BufferOk.results (hb : s.BufferOk) (hv : s.fault.valid = false) (hp : s.search.phase ≠ .idle) :
    s.ResultsValid :=
  let ⟨_, hdisc⟩ := hb
  (hdisc hv).2 hp

/-- The bytes that a READ or WRITE has still to touch are reachable, and are the last ones of its buffer. -/
theorem State.BufferOk.toCome (hb : s.BufferOk) (hv : s.fault.valid = false) (hp : s.search.phase = .idle)
    (hop : s.status.op = .read ∨ s.status.op = .write) (h0 : s.status.bytes ≠ 0) :
    s.validRange s.cursor.toNat s.status.bytes.toNat = true ∧ s.arg0.toNat ≤ s.cursor.toNat ∧
      s.cursor.toNat + s.status.bytes.toNat = s.arg0.toNat + s.arg1.toNat :=
  let ⟨_, hdisc⟩ := hb
  (hdisc hv).1 hp hop h0

/-- A response that keeps the view keeps the discipline. -/
theorem State.BufferOk.of_view (hb : s.BufferOk) (h : t.bufferView = s.bufferView) : s.KeepsBuffer t := by
  simp only [State.bufferView, State.course, State.frame, BufferView.mk.injEq, Course.mk.injEq, Frame.mk.injEq] at h
  obtain ⟨⟨⟨hparams, h0, h1, -, hmap, hstuck, -, -, -, -, -, hfault, -⟩, hop, hphase, -, -, -, -, -, -, hrmax⟩, hcursor,
    hbytes, hrbuf, hmem⟩ := h
  refine ⟨?_, fun x _ => by rw [hmem]⟩
  simpa only [State.BufferOk, State.validRange_congr hparams hmap, h0, h1, hstuck, hfault, hop, hphase, hrmax, hcursor,
    hbytes, hrbuf] using hb

/-- A byte of a READ or WRITE is done: the cursor and the count move on by one, so that the bytes still to come end
where they did. -/
theorem State.BufferOk.advance (hb : s.BufferOk) (hok : s.params.ok = true)
    (hop : s.status.op = .read ∨ s.status.op = .write) (h0 : s.status.bytes ≠ 0)
    (h : t.bufferView =
      { s.bufferView with cursor := s.nextCursor, bytes := s.status.bytes - 1, mem := t.mem }) : t.BufferOk := by
  simp only [State.bufferView, State.course, State.frame, BufferView.mk.injEq, Course.mk.injEq, Frame.mk.injEq] at h
  obtain ⟨⟨⟨hparams, ha0, ha1, -, hmap, hstuck, -, -, -, -, -, hfault, -⟩, -, hphase, -, -, -, -, -, -, hrmax⟩, hcursor,
    hbytes, hrbuf, -⟩ := h
  refine ⟨hstuck ▸ hb.bsm, fun hv => ⟨fun hp _ hmore => ?_, fun hp => ?_⟩⟩
  · obtain ⟨hvalid, hstart, hend⟩ := hb.toCome (hfault ▸ hv) (hphase ▸ hp) hop h0
    rw [hbytes] at hmore
    have hless : (s.status.bytes - 1).toNat + 1 = s.status.bytes.toNat ∧ 0 < (s.status.bytes - 1).toNat := by bv_omega
    rw [State.validRange_congr hparams hmap, hcursor, hbytes, ha0, ha1, State.nextCursor_exact hok hvalid (by omega)]
    exact ⟨State.validRange_part s _ _ 1 _ hvalid (by omega), by omega, by omega⟩
  · rw [State.validRange_congr hparams hmap, hrbuf, hrmax]
    exact hb.results (hfault ▸ hv) (hphase ▸ hp)

end

end Sys2Proof.Machine
end

section
/-! PROOF. The buffer discipline at the end of an operation (41_bit_io.md R157; 42_search_rom.md R201 to R222): a SEARCH
stores its codes in its result buffer. -/

namespace Sys2Proof.Machine

/-- SRC keeps the discipline, and stores nothing outside the result buffer. -/
def State.KeepsResults (s t : State) : Prop :=
  t.BufferOk ∧ s.SameMemOutside t s.rbuf.toNat (8 * s.rmax.toNat)

/-- A code is recorded, with host memory `m` after its eight bytes (42_search_rom.md R221). -/
def State.recorded (s : State) (m : Memory) : State :=
  { s with mem := m, search := { s.search with devicesFound := s.search.devicesFound + 1 }, prev := s.rom }

section
variable {s t : State}

/-- What SRC keeps after a code is recorded, it keeps from before. -/
theorem State.KeepsResults.of_recorded {m : Memory}
    (hm : s.SameMemOutside (s.recorded m) s.rbuf.toNat (8 * s.rmax.toNat)) (h : (s.recorded m).KeepsResults t) :
    s.KeepsResults t :=
  let ⟨hok, hmem⟩ := h
  ⟨hok, fun x hx => (hmem x hx).trans (hm x hx)⟩

theorem State.Between.srcFinish_keepsResults (h : s.Between) : s.KeepsResults s.srcFinish :=
  ⟨State.bufferOk_of_idle h.bsm h.op rfl, fun _ _ => rfl⟩

theorem State.Between.srcNextPass_keepsResults (h : s.Between) (hv : s.ResultsValid) :
    s.KeepsResults s.srcNextPass := by
  unfold State.srcNextPass
  split_ifs
  · exact (h.withSearch { s.search with result := .error } h.found_le).srcFinish_keepsResults
  · have hop : s.srcPassStart.status.op = .reset := rfl
    exact ⟨State.bufferOk_of_noCursor h.bsm (.inl (by simp [hop])) (fun _ => hv), fun _ _ => rfl⟩

/-- While a code fits, its eight bytes lie in the result buffer, and are all admitted there. -/
theorem State.Between.srcRecord_eq (h : s.Between) (hv : s.ResultsValid) (hroom : s.search.devicesFound < s.rmax) :
    ∃ m, s.srcRecord = some (s.recorded m) ∧ s.SameMemOutside (s.recorded m) s.rbuf.toNat (8 * s.rmax.toNat) := by
  have hfits : 8 * s.search.devicesFound.toNat + 8 ≤ 8 * s.rmax.toNat := by bv_omega
  obtain ⟨-, hwrap⟩ := s.validRange_bounds _ _ hv
  have haddr : s.addrAdd s.rbuf.toNat (8 * s.search.devicesFound.toNat) =
      s.rbuf.toNat + 8 * s.search.devicesFound.toNat := s.addrAdd_exact _ _ (by omega)
  have hpart : s.validRange (s.rbuf.toNat + 8 * s.search.devicesFound.toNat) (romBytes s.rom).length = true := by
    rw [romBytes_length]
    exact s.validRange_part _ _ _ _ hv hfits
  obtain ⟨m, hw, -, -, hout⟩ := State.writeBytes_of_validRange _ s _ hpart h.mem
  rw [romBytes_length] at hout
  exact ⟨m, by simp [State.srcRecord, State.recorded, haddr, hw], fun x hx => hout x (by omega)⟩

theorem State.Between.srcAfterPass_keepsResults (h : s.Between) (hv : s.ResultsValid)
    (hroom : s.search.devicesFound < s.rmax) : ∃ t, s.srcAfterPass = some t ∧ s.KeepsResults t := by
  obtain ⟨m, hrec, hm⟩ := h.srcRecord_eq hv hroom
  obtain ⟨hb, -⟩ := h.srcRecord hroom hrec
  rcases s.srcAfterPass_cases with ⟨-, ha⟩ | ⟨-, hnone, -⟩ | ⟨-, u, hu, ha⟩ | ⟨-, u, hu, ha⟩
  · exact ⟨_, ha, h.srcFinish_keepsResults⟩
  · simp [hrec] at hnone
  · cases hrec.symm.trans hu
    exact ⟨_, ha, .of_recorded hm hb.srcFinish_keepsResults⟩
  · cases hrec.symm.trans hu
    have hnext := hb.withSearch { (s.recorded m).search with kind := .next } hb.found_le
    exact ⟨_, ha, .of_recorded hm (hnext.srcNextPass_keepsResults hv)⟩

/-- The SEARCH goes on after its reset slots, its command byte or its triplets (42_search_rom.md R201). -/
theorem State.Between.srcSubDone_keepsResults (h : s.Between) (hv : s.ResultsValid) (hp : s.search.phase ≠ .idle)
    (hroom : s.search.devicesFound < s.rmax) (v : Word) : ∃ t, s.srcSubDone v = some t ∧ s.KeepsResults t := by
  have armed {u : State} (hu : u.stuck = s.stuck ∧ u.search.phase ≠ .idle) (hv' : u.ResultsValid)
      (hm : u.mem = s.mem) : s.KeepsResults u :=
    ⟨State.bufferOk_of_noCursor (by rw [hu.1, h.bsm]) (.inr hu.2) (fun _ => hv'), fun x _ => by rw [hm]⟩
  unfold State.srcSubDone
  cases hphase : s.search.phase with
  | idle => exact absurd hphase hp
  | reset =>
    simp only
    split_ifs
    · exact (h.withSearch { s.search with result := .error } h.found_le).srcAfterPass_keepsResults hv hroom
    · rw [State.srcSendSearchCmd, State.armWrite_eq]
      exact ⟨_, rfl, armed ⟨rfl, by simp⟩ hv rfl⟩
  | cmd => exact ⟨_, rfl, armed ⟨rfl, by simp [State.srcArmTriplets]⟩ hv rfl⟩
  | triplet => exact (h.withSearch s.srcEndPass.search h.found_le).srcAfterPass_keepsResults hv hroom

/-- Complete (41_bit_io.md R157): a SEARCH goes on or ends in the buffer it owns, and any other operation's host is
resumed. -/
theorem State.Inv.complete_keepsBuffer (hs : s.Inv) (hb : s.BufferOk) (ha : s.Answers)
    (hop : s.status.op ≠ .none ∧ s.status.op ≠ .pullup) (v : Word) :
    ∃ t, s.latchSlot.complete v = some t ∧ s.KeepsBuffer t := by
  have hbetween := hs.endOp_between ha hop
  obtain ⟨⟨hwait, -⟩, -, ⟨-, -, -, -, hroom⟩, -⟩ := hs.control ha.1
  rw [State.complete_eq]
  split_ifs with hp
  · exact ⟨_, rfl, State.bufferOk_of_idle ha.2 rfl hp, fun _ _ => rfl⟩
  · obtain ⟨t, ht, hok, hmem⟩ := hbetween.srcSubDone_keepsResults (hb.results ha.1 hp) hp (hroom hp) v
    refine ⟨t, ht, hok, fun x hx => hmem x ?_⟩
    have hout := mt (State.ownsByte_iff_results (hwait.2 (.inl hop.1)) hp x).2 (by simp [hx])
    show x < s.rbuf.toNat ∨ s.rbuf.toNat + 8 * s.rmax.toNat ≤ x
    omega

end

end Sys2Proof.Machine
end

section
/-! PROOF. The buffer discipline in every instruction (20_memory.md R86, R87; 41_bit_io.md R171). -/

namespace Sys2Proof.Machine

section
variable {s t : State}

/-- A READ, and a WRITE from host memory, is no part of a SEARCH (10_state.md R53). -/
theorem State.Control.phase_idle_of_buffer (h : s.Control)
    (hop : s.status.op = .read ∨ s.status.op = .write ∧ s.wsrc = .memory) : s.search.phase = .idle := by
  obtain ⟨-, -, ⟨-, hreset, hcmd, htriplet, -⟩, -⟩ := h
  cases hp : s.search.phase
  case idle => rfl
  all_goals simp_all

/-! ### The responses to MASTER -/

theorem State.Inv.masterReset_keepsBuffer (hs : s.Inv) (hb : s.BufferOk) (ha : s.Answers) (hop : s.status.op = .reset) :
    ∃ t, s.latchSlot.masterReset = some t ∧ s.KeepsBuffer t := by
  unfold State.masterReset
  split_ifs
  · exact hs.complete_keepsBuffer hb ha (by simp [hop]) _
  · exact ⟨_, rfl, hb.of_view rfl⟩

theorem State.Inv.masterRead_keepsBuffer (hs : s.Inv) (hb : s.BufferOk) (ha : s.Answers) (hop : s.status.op = .read) :
    ∃ t, s.latchSlot.masterRead = some t ∧ s.KeepsBuffer t := by
  unfold State.masterRead
  split_ifs
  · exact hs.complete_keepsBuffer hb ha (by simp [hop]) _
  · exact ⟨_, rfl, hb.of_view rfl⟩
  · exact ⟨_, rfl, hb.of_view rfl⟩

/-- The byte a WRITE takes next is there: CMD_SEARCH_ROM always, and host memory's while the count is not used up. -/
theorem State.Inv.byteAt_nextCursor (hs : s.Inv) (hb : s.BufferOk) (ha : s.Answers) (hop : s.status.op = .write)
    (h0 : s.status.bytes ≠ 0) (h1 : s.status.bytes ≠ 1) : ∃ b, s.byteAt s.nextCursor.toNat = some b := by
  cases hsrc : s.wsrc with
  | searchRom => exact ⟨s.params.cmdSearchRom, by simp [State.byteAt, hsrc]⟩
  | memory =>
    have hp := (hs.control ha.1).phase_idle_of_buffer (.inr ⟨hop, hsrc⟩)
    obtain ⟨hvalid, -⟩ := hb.toCome ha.1 hp (.inr hop) h0
    have hmore : 2 ≤ s.status.bytes.toNat := by bv_omega
    refine ⟨s.mem.read (s.cursor.toNat + 1), ?_⟩
    rw [State.byteAt, hsrc, State.nextCursor_exact hs.params_ok hvalid hmore]
    exact (s.memRead_eq_some _ _).2 ⟨s.byteAdmitted_of_validRange _ _ 1 hvalid hmore, rfl⟩

/-- A WRITE's next bit (41_bit_io.md R164). -/
theorem State.Inv.advW_keepsBuffer (hs : s.Inv) (hb : s.BufferOk) (ha : s.Answers) (hop : s.status.op = .write)
    (h0 : s.status.bytes ≠ 0) (low : LowPulse) :
    ∃ t, (s.latchSlot.setNextLow low).advW = some t ∧ s.KeepsBuffer t := by
  rcases (s.latchSlot.setNextLow low).advW_cases with ⟨-, h⟩ | ⟨-, h1, h⟩ | ⟨-, -, b, -, h⟩ | ⟨-, h1, hnone, -⟩
  · exact ⟨_, h, hb.of_view rfl⟩
  · replace h1 : s.status.bytes = 1 := h1
    refine ⟨_, h, hb.advance hs.params_ok (.inr hop) h0 ?_, fun _ _ => rfl⟩
    rw [h1]
    rfl
  · exact ⟨_, h, hb.advance hs.params_ok (.inr hop) h0 rfl, fun _ _ => rfl⟩
  · obtain ⟨b, hsome⟩ := hs.byteAt_nextCursor hb ha hop h0 h1
    exact absurd (hsome.symm.trans hnone) (by simp)

theorem State.Inv.masterWrite_keepsBuffer (hs : s.Inv) (hb : s.BufferOk) (ha : s.Answers) (hop : s.status.op = .write) :
    ∃ t, s.latchSlot.masterWrite = some t ∧ s.KeepsBuffer t := by
  unfold State.masterWrite State.finishWrite
  split_ifs with hf hn h0
  · have hpullup : s.latchSlot.startPullup.status.op = .pullup := rfl
    exact ⟨_, rfl, State.bufferOk_of_noCursor ha.2 (.inl (by simp [hpullup])) (hb.results ha.1), fun _ _ => rfl⟩
  · exact hs.complete_keepsBuffer hb ha (by simp [hop]) _
  · exact ⟨_, rfl, hb.of_view rfl⟩
  · exact hs.advW_keepsBuffer hb ha hop h0 _

theorem State.Inv.masterTriplet_keepsBuffer (hs : s.Inv) (hb : s.BufferOk) (ha : s.Answers)
    (hop : s.status.op = .triplet) : ∃ t, s.latchSlot.masterTriplet = some t ∧ s.KeepsBuffer t := by
  unfold State.masterTriplet
  by_cases hf : s.latchSlot.status.finalTimeslot = true
  · rw [if_pos hf]
    exact hs.complete_keepsBuffer hb ha (by simp [hop]) _
  · rw [if_neg hf]
    cases s.latchSlot.search.bitStep with
    | slotA => exact ⟨_, rfl, hb.of_view rfl⟩
    | slotB => exact ⟨_, rfl, hb.of_view rfl⟩
    | slotW =>
      simp only
      split_ifs
      · exact ⟨_, rfl, hb.of_view rfl⟩
      · exact ⟨_, rfl, hb.of_view rfl⟩

/-! ### The responses to SAMPLE -/

/-- A triplet's SAMPLE moves SRC on, and no byte. -/
theorem State.sampleTriplet_bufferView (s : State) (pin : Bool) : (s.sampleTriplet pin).bufferView = s.bufferView := by
  unfold State.sampleTriplet
  cases s.search.bitStep with
  | slotA => rfl
  | slotB =>
    simp only [State.sampleSlotB]
    split <;> rfl
  | slotW =>
    simp only [State.sampleSlotW]
    split_ifs <;> rfl

/-- A SAMPLE that a READ answers has a byte to come, which lies in the buffer OWE owns and is admitted. -/
theorem State.Inv.read_cursor (hs : s.Inv) (hb : s.BufferOk) (hm : s.SampleReady) (hop : s.status.op = .read) :
    s.status.bytes ≠ 0 ∧ s.byteAdmitted s.cursor.toNat = true ∧ s.ownsByte s.cursor.toNat = true := by
  obtain ⟨ha, -, hen, -⟩ := hm
  have hp := (hs.control ha.1).phase_idle_of_buffer (.inl hop)
  obtain ⟨⟨hwait, -⟩, -⟩ := hs.control ha.1
  obtain ⟨-, hfinal, hseq⟩ := (State.sequenceOk_read hop).1 (hs.sequence ha.1)
  have h0 : s.status.bytes ≠ 0 := by
    cases hf : s.status.finalTimeslot
    · exact (hseq hf).2.1
    · simp [((hfinal hf).2.1 hen).1]
  obtain ⟨hvalid, hstart, hend⟩ := hb.toCome ha.1 hp (.inl hop) h0
  have hpos : 0 < s.status.bytes.toNat := by bv_omega
  refine ⟨h0, s.byteAdmitted_of_validRange _ _ 0 hvalid hpos, ?_⟩
  exact (State.ownsByte_iff_args (hwait.2 (.inl (by simp [hop]))) hp _).2 ⟨by simp [hop], hstart, by omega⟩

/-- A READ stores its byte at the cursor, in the buffer it owns (41_bit_io.md R162, R171). -/
theorem State.Inv.sampleRead_keepsBuffer (hs : s.Inv) (hb : s.BufferOk) (hm : s.SampleReady) (hop : s.status.op = .read)
    (pin : Bool) : ∃ t, s.closeSlot.sampleRead pin = some t ∧ s.KeepsBuffer t := by
  obtain ⟨h0, hadm, howned⟩ := hs.read_cursor hb hm hop
  unfold State.sampleRead
  split_ifs
  · refine ⟨_, (State.storeReadByte_eq_some _ _).2 ⟨hadm, rfl⟩, hb.advance hs.params_ok (.inl hop) h0 rfl,
      fun x hx => ?_⟩
    have hne : s.cursor.toNat ≠ x := by
      rintro rfl
      simp [howned] at hx
    exact (Memory.read_write _ _ _ _ hs.mem_wf).trans (if_neg hne)
  · exact ⟨_, rfl, hb.of_view rfl⟩

/-! ### Every instruction -/

theorem State.AnswersMaster.keepsBuffer {r : Option State} (hs : s.Inv) (hb : s.BufferOk) (ha : s.Answers)
    (h : s.latchSlot.AnswersMaster r) : ∃ t, r = some t ∧ s.KeepsBuffer t := by
  cases h with
  | reset hop => exact hs.masterReset_keepsBuffer hb ha hop
  | read hop => exact hs.masterRead_keepsBuffer hb ha hop
  | write hop => exact hs.masterWrite_keepsBuffer hb ha hop
  | triplet hop => exact hs.masterTriplet_keepsBuffer hb ha hop

theorem State.AnswersSample.keepsBuffer {r : Option State} {pin : Bool} (hs : s.Inv) (hb : s.BufferOk)
    (hm : s.SampleReady) (h : s.closeSlot.AnswersSample pin r) : ∃ t, r = some t ∧ s.KeepsBuffer t := by
  cases h with
  | reset => exact ⟨_, rfl, hb.of_view rfl⟩
  | read hop => exact hs.sampleRead_keepsBuffer hb hm hop pin
  | triplet => exact ⟨_, rfl, hb.of_view (s.closeSlot.sampleTriplet_bufferView pin)⟩

/-- A count that READ or WRITE accepts is the count STATUS.bytes starts with (30_encoding.md R103). -/
theorem State.bytes_of_countOk (hok : s.params.ok = true) (hc : s.countBad = false) :
    (BitVec.ofNat 16 s.countOperand).toNat = s.arg1.toNat := by
  obtain ⟨hbits, -, hmax, -⟩ := Params.ok_iff.1 hok
  simp only [State.countBad, Bool.or_eq_false_iff, decide_eq_false_iff_not, not_lt] at hc
  have hspace : 2 ^ s.params.countBits ≤ 2 ^ 16 := Nat.pow_le_pow_right (by omega) hbits
  rw [BitVec.toNat_ofNat, Nat.mod_eq_of_lt (by omega)]
  rfl

/-- A READ or WRITE is accepted with its whole buffer to come (41_bit_io.md R163, R168). -/
theorem State.BufferOk.of_accepted (hb : s.BufferOk) (hok : s.params.ok = true) (hc : s.countBad = false)
    (hv : s.validRange s.addrOperand s.countOperand = true) (hframe : t.frame = { s.frame with waiter := true })
    (hp : t.search.phase = .idle) (hcursor : t.cursor = s.arg0)
    (hbytes : t.status.bytes = BitVec.ofNat 16 s.countOperand) : t.BufferOk := by
  simp only [State.frame, Frame.mk.injEq] at hframe
  obtain ⟨hparams, ha0, ha1, -, hmap, hstuck, -⟩ := hframe
  refine ⟨hstuck ▸ hb.bsm, fun _ => ⟨fun _ _ _ => ?_, fun hne => absurd hp hne⟩⟩
  rw [State.validRange_congr hparams hmap, hcursor, hbytes, ha0, ha1, State.bytes_of_countOk hok hc]
  exact ⟨hv, le_rfl, rfl⟩

/-- Every response has its step, keeps the buffer discipline, and stores only in the buffer OWE owns. -/
theorem State.Runs.keepsBuffer {i : Instr} {r : Option State} (hs : s.Inv) (hb : s.BufferOk)
    (hv : s.fault.valid = false) (h : s.Runs i r) : ∃ t, r = some t ∧ s.KeepsBuffer t := by
  cases h with
  | objinit => exact ⟨_, rfl, State.bufferOk_of_idle hb.bsm rfl rfl, fun _ _ => rfl⟩
  | start hw =>
    have hrest := hs.atRest hv hw
    exact ⟨_, rfl, State.bufferOk_of_idle hb.bsm hrest.op hrest.phase, fun _ _ => rfl⟩
  | stop hw =>
    have hrest := hs.atRest hv hw
    exact ⟨_, rfl, State.bufferOk_of_idle hb.bsm hrest.op hrest.phase, fun _ _ => rfl⟩
  | reset hw =>
    have hop : s.block.armReset.status.op = .reset := rfl
    exact ⟨_, rfl, State.bufferOk_of_noCursor hb.bsm (.inl (by simp [hop])) (hb.results hv), fun _ _ => rfl⟩
  | read hw _ hc hvalid =>
    have hp := (hs.atRest hv hw).phase
    exact ⟨_, rfl, hb.of_accepted hs.params_ok hc hvalid rfl hp rfl rfl, fun _ _ => rfl⟩
  | write hw _ hc hvalid =>
    have hp := (hs.atRest hv hw).phase
    exact ⟨_, rfl, hb.of_accepted hs.params_ok hc hvalid rfl hp rfl rfl, fun _ _ => rfl⟩
  | search hw hst hc hvalid =>
    have hresults : s.searchInit.ResultsValid := by
      rw [State.ResultsValid, (State.rmax_of_maxOk hs.params_ok hc).1]
      exact hvalid
    obtain ⟨hok, -⟩ := (hs.searchInit_between hv hw hst hc hvalid).srcNextPass_keepsResults hresults
    exact ⟨_, rfl, hok, fun x _ => by rw [s.searchInit.srcNextPass_mem]; rfl⟩
  | crc8 => exact ⟨_, rfl, hb.of_view rfl⟩
  | master hm ha => exact ha.keepsBuffer hs hb hm.1
  | sample pin hm ha => exact ha.keepsBuffer hs hb hm
  | pullupEnd ha hop =>
    exact ⟨_, rfl, State.bufferOk_of_idle hb.bsm rfl ((hs.control hv).phase_idle_of_pullup hop), fun _ _ => rfl⟩

theorem State.BufferOk.raiseFault_keepsBuffer (hb : s.BufferOk) (c : FaultCause) (info : Byte) :
    s.KeepsBuffer (s.raiseFault c info) :=
  ⟨⟨hb.bsm, by simp⟩, fun _ _ => rfl⟩

/-- Every instruction keeps the buffer discipline, and stores only in the buffer OWE owns. -/
theorem exec_keepsBuffer {i : Instr} (hs : s.Inv) (hb : s.BufferOk) (h : exec i s = .next t) : s.KeepsBuffer t := by
  rcases exec_goesOn h with rfl | ⟨c, info, rfl⟩ | ⟨hv, r, hrun, hr⟩
  · exact hb.of_view rfl
  · exact hb.raiseFault_keepsBuffer c info
  · obtain ⟨u, rfl, hu⟩ := hrun.keepsBuffer hs hb hv
    cases hr
    exact hu

end

end Sys2Proof.Machine
end

section
/-! PROOF. O54 and O55: the buffer discipline in every step, by the agent that moves (20_memory.md R86, R87, R97;
60_exceptions.md R274). -/

namespace Sys2Proof.Machine

section
variable {s t : State}

/-! ### What a step keeps -/

/-- An operand is written only while no host waits, and then no buffer is owned (10_state.md R40). -/
theorem State.Inv.writeReg_keepsBuffer (hs : s.Inv) (hb : s.BufferOk) {who : HostId} {r : Reg} {v : Word}
    (h : s.writeReg who r v = .next t) : s.KeepsBuffer t := by
  unfold State.writeReg at h
  by_cases hv : s.fault.valid = true
  · rw [if_pos hv] at h
    cases h
    exact hb.of_view rfl
  · rw [if_neg hv] at h
    replace hv : s.fault.valid = false := by simpa using hv
    cases r
    case cmd =>
      simp only [State.writeCmd] at h
      split at h
      · exact exec_keepsBuffer (s := s.callBy who) hs hb h
      · cases h
        exact hb.raiseFault_keepsBuffer _ _
    case arg0 | arg1 | arg2 =>
      simp only at h
      split_ifs at h with hw <;> cases h
      · exact hb.raiseFault_keepsBuffer _ _
      · have hrest := hs.atRest hv (by simpa using hw)
        exact ⟨State.bufferOk_of_idle hrest.bsm hrest.op hrest.phase, fun _ _ => rfl⟩
    all_goals
      cases h
      exact hb.of_view rfl

/-- Which hosts are stuck is no part of the discipline. -/
theorem State.BufferOk.stickHost_keepsBuffer (hb : s.BufferOk) (who : HostId) : s.KeepsBuffer (s.stickHost who) :=
  ⟨hb, fun _ _ => rfl⟩

theorem State.BufferOk.hostLoad_keepsBuffer (hb : s.BufferOk) {who : HostId} {a : Word}
    (h : s.hostLoad who a = .next t) : s.KeepsBuffer t := by
  unfold State.hostLoad at h
  split_ifs at h
  · cases h
    exact hb.stickHost_keepsBuffer who
  · split at h <;> cases h
    exact ⟨hb, fun _ _ => rfl⟩

/-- A host's own store is no part of the discipline either. -/
theorem State.BufferOk.hostStore_bufferOk (hb : s.BufferOk) {who : HostId} {a : Word} {b : Byte}
    (h : s.hostStore who a b = .next t) : t.BufferOk := by
  unfold State.hostStore at h
  split_ifs at h
  · cases h
    exact hb
  · split at h
    · cases h
    · rename_i u hw
      obtain ⟨-, rfl⟩ := (State.memWrite_eq_some _ _ _ _).1 hw
      cases h
      exact hb

theorem State.Inv.hostAct_keepsBuffer (hs : s.Inv) (hb : s.BufferOk) {who : HostId} {act : HostAction}
    (hact : ∀ a b, act ≠ .store a b) (h : s.hostAct who act = .next t) : s.KeepsBuffer t := by
  cases act with
  | write off size v =>
    simp only [State.hostAct] at h
    split at h
    · cases h
      exact hb.stickHost_keepsBuffer who
    · exact hs.writeReg_keepsBuffer hb h
  | read off size =>
    simp only [State.hostAct] at h
    split at h <;> cases h
    · exact hb.stickHost_keepsBuffer who
    · exact ⟨hb, fun _ _ => rfl⟩
  | store a b => exact absurd rfl (hact a b)
  | load a => exact hb.hostLoad_keepsBuffer h
  | halt =>
    cases h
    exact ⟨hb, fun _ _ => rfl⟩

theorem State.Inv.deliverEvent_keepsBuffer (hs : s.Inv) (hb : s.BufferOk) {w : BitVec 3}
    (h : s.deliverEvent w = .next t) : s.KeepsBuffer t := by
  unfold State.deliverEvent at h
  split at h
  · exact exec_keepsBuffer hs hb h
  all_goals cases h
  exact hb.of_view rfl

theorem State.Inv.environment_keepsBuffer (hs : s.Inv) (hb : s.BufferOk) (h : s.environment = .next t) :
    s.KeepsBuffer t := by
  unfold State.environment at h
  split_ifs at h
  · exact exec_keepsBuffer (s := { s with draws := s.draws + 1 }) hs hb h
  · exact exec_keepsBuffer hs hb h
  · exact exec_keepsBuffer hs hb h

/-- Every input but a host's store, which writes memory, and a new memory map, which can withdraw a byte. -/
theorem State.Inv.deliver_keepsBuffer (hs : s.Inv) (hb : s.BufferOk) {i : Input}
    (hstore : ∀ who a b, i ≠ .host who (.store a b)) (hmap : ∀ regions, i ≠ .memMap regions)
    (h : s.deliver i = .next t) : s.KeepsBuffer t := by
  cases i with
  | host who act =>
    simp only [State.deliver] at h
    split_ifs at h
    · cases h
      exact hb.of_view rfl
    · exact hs.hostAct_keepsBuffer hb (fun a b hact => hstore who a b (by rw [hact])) h
  | event w => exact hs.deliverEvent_keepsBuffer hb h
  | turn =>
    simp only [State.deliver] at h
    split_ifs at h
    · exact hs.environment_keepsBuffer hb h
    · cases h
      exact hb.of_view rfl
  | memMap regions => exact absurd rfl (hmap regions)
  | powerOn =>
    cases h
    exact ⟨State.bufferOk_of_idle rfl rfl rfl, fun _ _ => rfl⟩

theorem State.BufferOk.quiet_keepsBuffer (hb : s.BufferOk) (h : s.quiet = .next t) : s.KeepsBuffer t := by
  unfold State.quiet at h
  split_ifs at h
  cases h
  exact hb.of_view rfl

end

/-! ### What a step does not stop on -/

section
variable (s : State)

theorem State.respond_ne_fault (r : Option State) (f : Fault) : s.respond r ≠ .fault f := by
  cases r <;> simp

theorem State.issue_ne_fault {info : Byte} {checks : List (Bool × FaultCause)} {acc : Result} {f : Fault}
    (h : acc ≠ .fault f) : s.issue info checks acc ≠ .fault f := by
  rcases s.issue_cases info checks acc with ⟨-, hi⟩ | ⟨-, c, -, hi⟩ | ⟨-, -, hi⟩ <;> rw [hi]
  · simp
  · simp
  · exact h

/-- No instruction stops the machine with a fault: what stops is a host or the whole machine. -/
theorem exec_ne_fault (i : Instr) (f : Fault) : exec i s ≠ .fault f := by
  cases i with
  | master pin =>
    simp only [exec, execMaster]
    split_ifs
    · simp
    · simp
    · simp [State.spurious]
    · split <;> simp only [State.spurious, State.respond_ne_fault, ne_eq, reduceCtorEq, not_false_eq_true]
  | sample pin =>
    simp only [exec, execSample]
    split_ifs
    · simp
    · simp [State.spurious]
    · split <;> simp only [State.spurious, State.respond_ne_fault, ne_eq, reduceCtorEq, not_false_eq_true]
  | pullupEnd pin =>
    simp only [exec, execPullupEnd]
    split_ifs
    · simp
    · simp
    · split <;> simp [State.spurious]
  | write => exact s.issue_ne_fault (s.respond_ne_fault _ f)
  | crc8 => exact s.issue_ne_fault (s.respond_ne_fault _ f)
  | _ => exact s.issue_ne_fault (by simp)

theorem State.writeReg_ne_fault (who : HostId) (r : Reg) (v : Word) (f : Fault) : s.writeReg who r v ≠ .fault f := by
  unfold State.writeReg
  by_cases hv : s.fault.valid = true
  · simp [hv]
  · rw [if_neg hv]
    cases r
    case cmd =>
      simp only [State.writeCmd]
      split
      · exact exec_ne_fault _ _ f
      · simp
    case arg0 | arg1 | arg2 => simp only; split_ifs <;> simp
    all_goals simp

theorem State.environment_ne_fault (f : Fault) : s.environment ≠ .fault f := by
  unfold State.environment
  split_ifs
  · exact exec_ne_fault _ _ f
  · exact exec_ne_fault _ _ f
  · exact exec_ne_fault _ _ f

/-- A host's own byte access can stop, but on no byte that was withdrawn from OWE (log 26). -/
theorem State.hostAct_ne_byteWithdrawn (who : HostId) (act : HostAction) :
    s.hostAct who act ≠ .fault .byteWithdrawn := by
  cases act with
  | write off size v =>
    simp only [State.hostAct]
    split
    · simp
    · exact s.writeReg_ne_fault who _ v _
  | read off size =>
    simp only [State.hostAct]
    split <;> simp
  | store a b =>
    simp only [State.hostAct, State.hostStore]
    split_ifs
    · simp
    · simp
    · split <;> simp
  | load a =>
    simp only [State.hostAct, State.hostLoad]
    split_ifs
    · simp
    · simp
    · split <;> simp
  | halt => simp [State.hostAct]

theorem State.deliver_ne_byteWithdrawn (i : Input) : s.deliver i ≠ .fault .byteWithdrawn := by
  cases i with
  | host who act =>
    simp only [State.deliver]
    split_ifs
    · simp
    · exact s.hostAct_ne_byteWithdrawn who act
  | event w =>
    simp only [State.deliver, State.deliverEvent]
    split
    · exact exec_ne_fault _ _ _
    all_goals simp
  | turn =>
    simp only [State.deliver]
    split_ifs
    · exact s.environment_ne_fault _
    · simp
  | memMap regions => simp [State.deliver]
  | powerOn => simp [State.deliver]

/-- Where BSM is not stuck, a quiet machine does not stop on a withdrawn byte. -/
theorem State.quiet_ne_byteWithdrawn (h : s.stuck.bsm = false) : s.quiet ≠ .fault .byteWithdrawn := by
  unfold State.quiet
  split_ifs <;> simp_all

end

/-! ### Every step -/

/-- A step delivers the input that arrives, or PG or PUT moves, or the machine is quiet. -/
theorem step_cases (s : State) :
    (∃ i rest, s.arrival = some (i, rest) ∧ step s = State.deliver { s with inputs := rest } i) ∨
    s.arrival = none ∧ (step s = s.environment ∨ step s = s.quiet) := by
  cases ha : s.arrival with
  | some p =>
    obtain ⟨i, rest⟩ := p
    exact .inl ⟨i, rest, rfl, step_of_arrival s i rest ha⟩
  | none =>
    refine .inr ⟨rfl, ?_⟩
    simp only [step, State.advance, ha]
    split_ifs
    · exact .inl rfl
    · exact .inr rfl

theorem step_ne_byteWithdrawn {s : State} (hb : s.BufferOk) : step s ≠ .fault .byteWithdrawn := by
  rcases step_cases s with ⟨i, rest, -, h⟩ | ⟨-, h | h⟩ <;> rw [h]
  · exact State.deliver_ne_byteWithdrawn _ i
  · exact s.environment_ne_fault _
  · exact s.quiet_ne_byteWithdrawn hb.bsm

/-- A step keeps the discipline but where it takes a new memory map. -/
theorem step_bufferOk {s t : State} (hs : s.Inv) (hb : s.BufferOk) (hmap : s.mapChanges = false)
    (h : step s = .next t) : t.BufferOk := by
  rcases step_cases s with ⟨i, rest, ha, hstep⟩ | ⟨-, hstep | hstep⟩ <;> rw [hstep] at h
  · have hi : ∀ regions, i ≠ .memMap regions := by
      rintro regions rfl
      simp [State.mapChanges, ha] at hmap
    by_cases hstore : ∃ who a b, i = .host who (.store a b)
    · obtain ⟨who, a, b, rfl⟩ := hstore
      simp only [State.deliver] at h
      split_ifs at h
      · cases h
        exact hb
      · exact State.BufferOk.hostStore_bufferOk (s := { s with inputs := rest }) hb h
    · push Not at hstore
      exact (State.Inv.deliver_keepsBuffer (s := { s with inputs := rest }) hs hb hstore hi h).1
  · exact (hs.environment_keepsBuffer hb h).1
  · exact (hb.quiet_keepsBuffer h).1

/-- A step stores only in the buffer OWE owns but where it takes a host's own store. -/
theorem step_mem_outside {s t : State} (hs : s.Inv) (hb : s.BufferOk) (hstore : s.hostStores = false)
    (h : step s = .next t) {x : Nat} (hx : s.ownsByte x = false) : t.mem.read x = s.mem.read x := by
  rcases step_cases s with ⟨i, rest, ha, hstep⟩ | ⟨-, hstep | hstep⟩ <;> rw [hstep] at h
  · have hi : ∀ who a b, i ≠ .host who (.store a b) := by
      rintro who a b rfl
      simp [State.hostStores, ha] at hstore
    by_cases hmap : ∃ regions, i = .memMap regions
    · obtain ⟨regions, rfl⟩ := hmap
      cases h
      rfl
    · push Not at hmap
      exact (State.Inv.deliver_keepsBuffer (s := { s with inputs := rest }) hs hb hi hmap h).2 x hx
  · exact (hs.environment_keepsBuffer hb h).2 x hx
  · exact (hb.quiet_keepsBuffer h).2 x hx

/-- Settles O54: no agent's move stops on a withdrawn byte while BSM is not stuck, and each keeps the discipline. -/
theorem acceptedBuffersStayReachable : Obligations.AcceptedBuffersStayReachable :=
  fun _ hs hb hmap => ⟨step_ne_byteWithdrawn hb, fun _ h =>
    have hok := step_bufferOk hs hb hmap h
    ⟨hok, hok.bsm⟩⟩

/-- Settles O55: what an instruction stores lies in the buffer OWE owns, and no other agent's move but a host's store
writes memory. -/
theorem writesStayInsideTheOwnedBuffer : Obligations.WritesStayInsideTheOwnedBuffer :=
  fun _ _ hs hb hstore h _ hx => step_mem_outside hs hb hstore h hx

end Sys2Proof.Machine
end

section
/-! PROOF. O2, O1 and O3: the decoder and the encoder agree (30_encoding.md R101, R111). What decodes is a row of the
opcode table, or one of the event port's eight words. -/

namespace Sys2Proof.Machine

/-- A CMD word decodes to the command of its row in the opcode table (30_encoding.md R101). -/
theorem mem_commandTable_of_decodeCommand {w : Word} {i : Instr} (h : decodeCommand w = .ok i) :
    (w, i) ∈ commandTable := by
  unfold decodeCommand at h
  split at h
  next row hrow =>
    have hword : row.1 = w := by simpa using List.find?_some hrow
    cases h
    exact hword ▸ List.mem_of_find?_eq_some hrow
  next => cases h

/-- The opcode table holds legal commands, each with the word that the encoder gives it (30_encoding.md R101). -/
theorem commandTable_encode : ∀ row ∈ commandTable, row.2.wellFormed = true ∧ encode row.2 = .command row.1 := by
  decide

/-- The words of the opcode table are 1 to 8 (30_encoding.md R120). -/
theorem commandTable_range : ∀ row ∈ commandTable, 1 ≤ row.1.toNat ∧ row.1.toNat ≤ 8 := by
  decide

/-- Every CMD word outside the opcode table is reserved (30_encoding.md R120). -/
theorem decodeCommand_reserved {w : Word} (h : w.toNat = 0 ∨ 8 < w.toNat) :
    decodeCommand w = .error (.reservedOpcode (w.setWidth 8)) := by
  have hnone : commandTable.find? (fun row => row.1 == w) = none := by
    rw [List.find?_eq_none]
    intro row hrow hword
    obtain ⟨hlow, hhigh⟩ := commandTable_range row hrow
    rw [beq_iff_eq.1 hword] at hlow hhigh
    omega
  simp [decodeCommand, hnone]

/-- What the eight words of the event port decode to is legal, and the encoder gives it that word (30_encoding.md
R111). -/
theorem decodeEvent_encode :
    ∀ w : BitVec 3, ∀ i ∈ (decodeEvent w).toOption, i.wellFormed = true ∧ encode i = .event w := by
  decide

/-- Settles O2: a CMD word that decodes is in the opcode table, and the event port has eight words. -/
theorem decodedWordIsItsEncoding : Obligations.DecodedWordIsItsEncoding := by
  intro p i h
  cases p with
  | command w => exact commandTable_encode _ (mem_commandTable_of_decodeCommand h)
  | event w => exact decodeEvent_encode w i (by rw [show decodeEvent w = .ok i from h]; rfl)

/-- Settles O1, by the round trip of each instruction. -/
theorem encodedInstructionDecodesBack : Obligations.EncodedInstructionDecodesBack := by
  intro i
  cases i with
  | objinit => exact Laws.RoundTrip.objinit
  | start => exact Laws.RoundTrip.start
  | stop => exact Laws.RoundTrip.stop
  | reset => exact Laws.RoundTrip.reset
  | read => exact Laws.RoundTrip.read
  | write => exact Laws.RoundTrip.write
  | search => exact Laws.RoundTrip.search
  | crc8 => exact Laws.RoundTrip.crc8
  | master pin => exact Laws.RoundTrip.master pin
  | sample pin => exact Laws.RoundTrip.sample pin
  | pullupEnd pin => exact Laws.RoundTrip.pullupEnd pin

/-- Settles O3: eight of the words are what the encoder gives their instructions, and the ninth is reserved. -/
theorem specEncodingsDecode : Obligations.SpecEncodingsDecode := by
  have back := encodedInstructionDecodesBack
  exact ⟨back .objinit rfl, back .reset rfl, back .search rfl, back .crc8 rfl, back (.master false) rfl,
    back (.sample false) rfl, back (.sample true) rfl, back (.pullupEnd false) rfl,
    decodeCommand_reserved (w := 0x14) (.inr (by decide))⟩

end Sys2Proof.Machine
end

section
/-! PROOF. O4 to O8: a step runs the word that arrives at a port (30_encoding.md R101, R111, R120). -/

namespace Sys2Proof.Machine

/-! ### The faulted state (60_exceptions.md R272) -/

section
variable {s : State} (hv : s.fault.valid = true)
include hv

theorem State.issue_of_faulted (info : Byte) (checks : List (Bool × FaultCause)) (acc : Result) :
    s.issue info checks acc = .next s :=
  if_pos hv

/-- While a fault is recorded, no legal instruction changes anything. -/
theorem exec_of_faulted {i : Instr} (hw : i.wellFormed = true) : exec i s = .next s := by
  obtain ⟨hmaster, hsample, hpullup⟩ := exec_event_of_ignored s (by simp [State.ignoresEvents, hv])
  cases i with
  | master pin =>
    cases pin with
    | false => exact hmaster
    | true => cases hw
  | sample pin => exact hsample pin
  | pullupEnd pin =>
    cases pin with
    | false => exact hpullup
    | true => cases hw
  | _ => exact State.issue_of_faulted hv _ _ _

end

/-! ### A host's access to a register (30_encoding.md R104, R105) -/

section
variable (s : State) (who : HostId)

/-- A 32-bit access at a register's offset reaches it (30_encoding.md R104). -/
@[simp] theorem admittedReg_offset (r : Reg) : admittedReg r.offset .word = some r := by
  cases r <;> rfl

theorem State.hostAct_write (r : Reg) (v : Word) : s.hostAct who (.write r.offset .word v) = s.writeReg who r v := by
  simp [State.hostAct]

theorem State.hostAct_read (r : Reg) :
    s.hostAct who (.read r.offset .word) = .next { s with readData := s.readReg r } := by
  simp [State.hostAct]

/-- While a fault is recorded, no register write has an effect (60_exceptions.md R272). -/
theorem State.writeReg_of_faulted (hv : s.fault.valid = true) (r : Reg) (v : Word) : s.writeReg who r v = .next s :=
  if_pos hv

theorem State.callBy_of_faulted (hv : s.fault.valid = true) : s.callBy who = s := by
  simp [State.callBy, hv]

/-- A CMD write that decodes runs its command for the host that wrote it; in the faulted state neither changes
anything. -/
theorem State.writeReg_cmd {w : Word} {i : Instr} (hi : decode (.command w) = .ok i) :
    s.writeReg who .cmd w = exec i (s.callBy who) := by
  cases hv : s.fault.valid with
  | true =>
    obtain ⟨hlegal, -⟩ := decodedWordIsItsEncoding _ _ hi
    rw [s.writeReg_of_faulted who hv, s.callBy_of_faulted who hv, exec_of_faulted hv hlegal]
  | false => simp [State.writeReg, State.writeCmd, hv, hi]

/-- A reserved CMD write faults with the word's low byte, before every other check (60_exceptions.md R275). -/
theorem State.writeReg_cmd_reserved (hv : s.fault.valid = false) {w : Word} (hw : w.toNat = 0 ∨ 8 < w.toNat) :
    s.writeReg who .cmd w = .next (s.raiseFault .reservedOpcode (w.extractLsb' 0 8)) := by
  rw [← BitVec.setWidth_eq_extractLsb' (by decide)]
  simp [State.writeReg, State.writeCmd, hv, decode, decodeCommand_reserved hw]

end

/-! ### The two ports -/

/-- An event word is never held back: it is delivered where it is the first input. -/
theorem step_event {s : State} {w : BitVec 3} {rest : List Input} (h : s.inputs = .event w :: rest) :
    step s = State.deliverEvent { s with inputs := rest } w :=
  step_head s _ rest h rfl

/-- Settles O4: code 0 is no event, and a word with a pin that must be 0 is refused, by the port and by the event. -/
theorem eventWordsOutsideTheTable : Obligations.EventWordsOutsideTheTable := by
  intro s w rest h
  rw [step_event h]
  refine ⟨?_, ?_, rfl, rfl⟩
  · rintro (rfl | rfl) <;> rfl
  · rintro (rfl | rfl) <;> rfl

/-- Settles O5: the host's write reaches CMD, and its word is in no row of the opcode table. -/
theorem reservedCommandWordFaults : Obligations.ReservedCommandWordFaults := by
  intro s who w rest h hact hv hw
  rw [(step_host s who _ rest h).1 hact]
  exact (State.hostAct_write _ who .cmd w).trans (State.writeReg_cmd_reserved { s with inputs := rest } who hv hw)

/-- Settles O6: the host's write reaches CMD and runs the command that its word decodes to. -/
theorem stepRunsTheCommandWritten : Obligations.StepRunsTheCommandWritten := by
  intro s who w i rest h hact hi
  rw [(step_host s who _ rest h).1 hact]
  exact (State.hostAct_write _ who .cmd w).trans (State.writeReg_cmd _ who hi)

/-- Settles O7: the event port runs what its word decodes to. -/
theorem stepRunsTheEventDelivered : Obligations.StepRunsTheEventDelivered := by
  intro s w i rest h hi
  simp [step_event h, State.deliverEvent, hi]

/-! ### The words of the opcode table's rows (log 18) -/

theorem decodeTableWord_eq_some {nbits w : Nat} {i : Instr} :
    decodeTableWord nbits w = some i ↔ ∃ p, portWord nbits w = some p ∧ decode p = .ok i := by
  unfold decodeTableWord
  cases hp : portWord nbits w with
  | none => simp
  | some p => cases hd : decode p <;> simp [hd]

/-- A row of at most 8 bits is a word of the event port. -/
theorem portWord_event {nbits w : Nat} {p : PortWord} (hn : nbits ≤ 8) (h : portWord nbits w = some p) :
    p = .event (BitVec.ofNat 3 w) := by
  simp only [portWord, if_pos hn] at h
  split_ifs at h
  exact (Option.some.inj h).symm

/-- A longer row is a CMD word. -/
theorem portWord_command {nbits w : Nat} {p : PortWord} (hn : 8 < nbits) (h : portWord nbits w = some p) :
    p = .command (BitVec.ofNat 32 w) := by
  simp only [portWord, if_neg (Nat.not_le.2 hn)] at h
  split_ifs at h
  exact (Option.some.inj h).symm

theorem State.withFetchWord_of_portWord (s : State) {nbits w : Nat} {p : PortWord} (h : portWord nbits w = some p) :
    s.withFetchWord nbits w = { s with inputs := portInput s.freeHost p :: s.inputs } := by
  simp [State.withFetchWord, h]

/-- Settles O8: the word placed is the first input, an event word or the CMD write of a host that can act. -/
theorem fetchedTableWordRuns : Obligations.FetchedTableWordRuns := by
  intro s nbits w i h
  obtain ⟨p, hp, hi⟩ := decodeTableWord_eq_some.1 h
  rw [s.withFetchWord_of_portWord hp]
  refine ⟨fun hn => ?_, fun hn => ⟨s.freeHost, s.freeHost_canAct, ?_⟩⟩
  · obtain rfl := portWord_event hn hp
    exact stepRunsTheEventDelivered _ _ i s.inputs rfl hi
  · obtain rfl := portWord_command hn hp
    exact stepRunsTheCommandWritten _ s.freeHost _ i s.inputs rfl s.freeHost_canAct hi

end Sys2Proof.Machine
end

section
/-! PROOF. O13: the operand checks, in their order (30_encoding.md R103; 60_exceptions.md R275). -/

namespace Sys2Proof.Machine

section
variable {s : State}

theorem State.countBad_iff : s.countBad = true ↔ s.arg1.toNat = 0 ∨ s.params.countMax < s.arg1.toNat := by
  rw [State.countBad, Bool.or_eq_true, decide_eq_true_iff, decide_eq_true_iff]
  exact Iff.rfl

theorem State.maxBad_iff : s.maxBad = true ↔ s.arg1.toNat = 0 ∨ s.params.devMax < s.arg1.toNat := by
  rw [State.maxBad, Bool.or_eq_true, decide_eq_true_iff, decide_eq_true_iff]
  exact Iff.rfl

theorem State.countBad_eq_false (h1 : 1 ≤ s.arg1.toNat) (hmax : s.arg1.toNat ≤ s.params.countMax) :
    s.countBad = false := by
  rw [← Bool.not_eq_true, State.countBad_iff]
  omega

theorem State.maxBad_eq_false (h1 : 1 ≤ s.arg1.toNat) (hmax : s.arg1.toNat ≤ s.params.devMax) :
    s.maxBad = false := by
  rw [← Bool.not_eq_true, State.maxBad_iff]
  omega

/-! ### What a command of READY with a buffer checks: its host, its state, its count or maximum, its buffer -/

section
variable (hs : s.IssueReady) (hready : s.status.state = .ready) {bad valid : Bool} {c : FaultCause} {info : Byte}
  {acc : Result}
include hs hready

/-- A bad count or maximum faults, whatever the buffer. -/
theorem State.issue_badOperand (hbad : bad = true) :
    s.issue info [(s.status.waiter, .busy), (s.stateIsNot .ready, .badState), (bad, c), (!valid, .badBuffer)] acc =
      .next (s.raiseFault c info) := by
  simp [State.issue, State.stateIsNot, hs.1, hs.2, hready, hbad]

/-- With a legal count or maximum, a buffer that is not valid faults. -/
theorem State.issue_badBuffer (hbad : bad = false) (hvalid : valid = false) :
    s.issue info [(s.status.waiter, .busy), (s.stateIsNot .ready, .badState), (bad, c), (!valid, .badBuffer)] acc =
      .next (s.raiseFault .badBuffer info) := by
  simp [State.issue, State.stateIsNot, hs.1, hs.2, hready, hbad, hvalid]

end

end

/-- Settles O13: in READY the count or the maximum is checked first, and the buffer after it. -/
theorem operandChecksInOrder : Obligations.OperandChecksInOrder := by
  refine fun s hs => ⟨fun hready hcount => ?count, fun hready h1 hmax hvalid => ?countBuffer,
    fun hready hcount => ?max, fun hready h1 hmax hvalid => ?maxBuffer⟩
  case count =>
    have hbad := State.countBad_iff.2 hcount
    exact ⟨State.issue_badOperand hs hready hbad, State.issue_badOperand hs hready hbad⟩
  case countBuffer =>
    have hgood := State.countBad_eq_false h1 hmax
    exact ⟨State.issue_badBuffer hs hready hgood hvalid, State.issue_badBuffer hs hready hgood hvalid⟩
  case max => exact State.issue_badOperand hs hready (State.maxBad_iff.2 hcount)
  case maxBuffer => exact State.issue_badBuffer hs hready (State.maxBad_eq_false h1 hmax) hvalid

end Sys2Proof.Machine
end

section
/-! PROOF. O42 and O43: the register map, and what a host's access to a register does (20_memory.md R84; 30_encoding.md
R104, R105). -/

namespace Sys2Proof.Machine

/-! ### The register map (30_encoding.md R104) -/

/-- The registers lie at the multiples of 4 below 0x3C. -/
theorem exists_offset_iff : ∀ off : BitVec 6,
    (∃ r ∈ Reg.all, r.offset = off) ↔ off.toNat % 4 = 0 ∧ off.toNat < 0x3C := by
  decide

/-- Only a 32-bit access at a register's offset is admitted (20_memory.md R84). -/
theorem admittedReg_isSome_iff (off : BitVec 6) (size : AccessSize) :
    (admittedReg off size).isSome = true ↔ size = .word ∧ off.toNat % 4 = 0 ∧ off.toNat < 0x3C := by
  cases size with
  | word => simpa [admittedReg] using exists_offset_iff off
  | _ => simp [admittedReg]

/-! ### Accesses that are not admitted, and stuck hosts (20_memory.md R84) -/

section
variable {s : State} {who : HostId} {rest : List Input}

/-- An action that leaves its host stuck, of a host that can act, leaves that host stuck, and that host alone. -/
theorem step_sticks {act : HostAction} (hact : s.CanAct who) (h : s.inputs = .host who act :: rest)
    (hstick : State.hostAct { s with inputs := rest } who act = .next (State.stickHost { s with inputs := rest } who)) :
    ∃ h : StuckAgents, step s = .next { s with inputs := rest, stuck := h } ∧ h.bsm = s.stuck.bsm ∧
      ∀ other : HostId, State.isStuck { s with stuck := h } other = (decide (other = who) || s.isStuck other) :=
  ⟨s.stuck.add who, ((step_host s who act rest h).1 hact).trans hstick, rfl, s.stickHost_isStuck who⟩

theorem State.hostAct_notAdmitted {off : BitVec 6} {size : AccessSize} (h : admittedReg off size = none) (v : Word) :
    s.hostAct who (.write off size v) = .next (s.stickHost who) ∧
      s.hostAct who (.read off size) = .next (s.stickHost who) := by
  simp [State.hostAct, h]

/-- A byte access at an address of the register block is none that R84 admits (20_memory.md R89). -/
theorem State.hostAct_inRegisterBlock {a : Word} (h : s.inRegisterBlock a.toNat = true) (b : Byte) :
    s.hostAct who (.store a b) = .next (s.stickHost who) ∧ s.hostAct who (.load a) = .next (s.stickHost who) := by
  simp [State.hostAct, State.hostStore, State.hostLoad, h]

theorem State.inRegisterBlock_iff {a : Nat} :
    s.inRegisterBlock a = true ↔ s.params.oweBase.toNat ≤ a ∧ a ≤ s.params.oweBase.toNat + 0x3F := by
  simp only [State.inRegisterBlock, Bool.and_eq_true, decide_eq_true_eq]
  omega

theorem State.isDone_of_stuck (h : s.isStuck who = true) : s.isDone who = true := by
  simp [State.isDone, h]

/-- PG and PUT have no move where a fault is recorded, or where neither runs. -/
theorem State.environmentMoves_eq_false (h : s.fault.valid = true ∨ s.pgctl.run = false ∧ s.put = none) :
    s.environmentMoves = false := by
  rcases h with hv | ⟨hrun, hput⟩
  · simp [State.environmentMoves, State.ignoresEvents, hv]
  · simp [State.environmentMoves, hrun, hput]

end

/-- Settles O42: the map by its offsets, and the other accesses by what a host's action does. -/
theorem registerMapIsExact : Obligations.RegisterMapIsExact := by
  refine ⟨admittedReg_isSome_iff, rfl, ?notAdmitted, ?inBlock, ?stuck, ?stops⟩
  case notAdmitted =>
    intro s who off size v rest hnone hact h
    obtain ⟨hwrite, hread⟩ := State.hostAct_notAdmitted (s := { s with inputs := rest }) (who := who) hnone v
    rcases h with h | h
    · exact step_sticks hact h hwrite
    · exact step_sticks hact h hread
  case inBlock =>
    intro s who a b rest hlow hhigh hact h
    obtain ⟨hstore, hload⟩ := State.hostAct_inRegisterBlock (s := { s with inputs := rest }) (who := who)
      (State.inRegisterBlock_iff.2 ⟨hlow, hhigh⟩) b
    rcases h with h | h
    · exact step_sticks hact h hstore
    · exact step_sticks hact h hload
  case stuck => exact fun s who act rest hstuck h => (step_host s who act rest h).2 (State.isDone_of_stuck hstuck)
  case stops =>
    intro s hi hw hbsm hidle hhosts
    rw [step_of_noInputs s hi (State.environmentMoves_eq_false hidle)]
    simp [State.quiet, hbsm, hw, hhosts]

/-! ### Register writes (30_encoding.md R105) -/

section
variable (s : State) (who : HostId) (v : Word)

theorem State.callBy_of_noFault (hv : s.fault.valid = false) :
    s.callBy who = { s with caller := if s.status.waiter then s.caller else who } := by
  simp [State.callBy, hv]

/-- An ARGn write of a machine on which no host waits stores the value. -/
theorem State.writeReg_arg (hs : s.IssueReady) :
    s.writeReg who .arg0 v = .next { s with arg0 := v } ∧ s.writeReg who .arg1 v = .next { s with arg1 := v } ∧
      s.writeReg who .arg2 v = .next { s with arg2 := v } := by
  simp [State.writeReg, hs.1, hs.2]

/-- While a host waits, an ARGn write raises BUSY (10_state.md R40). -/
theorem State.writeReg_arg_busy (hv : s.fault.valid = false) (hw : s.status.waiter = true) :
    s.writeReg who .arg0 v = .next (s.raiseFault .busy 0x10) ∧
      s.writeReg who .arg1 v = .next (s.raiseFault .busy 0x11) ∧
      s.writeReg who .arg2 v = .next (s.raiseFault .busy 0x12) := by
  simp [State.writeReg, hv, hw]

/-- The registers from RESULT on are read-only (10_state.md R59). -/
theorem State.writeReg_readOnly :
    ∀ r ∈ [Reg.result, .status, .search, .branch, .romLo, .romHi, .prevLo, .prevHi, .fault, .config, .pgctl],
      s.writeReg who r v = .next s := by
  simp [State.writeReg]

end

/-- Settles O43, by what a write does to each kind of register, and by the register map. -/
theorem registerWriteSemantics : Obligations.RegisterWriteSemantics := by
  refine fun s who v => ⟨fun hv i hi => ?_, fun hv hw => s.writeReg_arg who v ⟨hv, hw⟩, s.writeReg_arg_busy who v,
    s.writeReg_readOnly who v, fun hv r => s.writeReg_of_faulted who hv r v, fun r => s.hostAct_write who r v,
    s.hostAct_read who⟩
  rw [s.writeReg_cmd who hi, s.callBy_of_noFault who hv]

end Sys2Proof.Machine
end

section
/-! PROOF. O46: the actions of a host's statements (30_encoding.md R125, R127), and HALT (70_reset_and_hazards.md
R320). -/

namespace Sys2Proof.Machine

/-- A run that ends while a fault is recorded is a faulted one, and no other is. -/
theorem State.runEnd_eq_faulted (s : State) : s.runEnd = .faulted ↔ s.fault.valid = true := by
  unfold State.runEnd
  split_ifs with hv
  · exact iff_of_true rfl hv
  · exact iff_of_false (by simp) hv
  · exact iff_of_false (by simp) hv

theorem State.isDone_of_halted {s : State} {who : HostId} (h : s.hasHalted who = true) : s.isDone who = true := by
  simp [State.isDone, h]

/-- MATCHROM stores its command byte, and after it the eight bytes of the code, byte 0 first (30_encoding.md R127). -/
theorem matchrom_stores (s : Word) (code : BitVec 64) :
    .store s Config.matchRom :: (List.range 8).map (fun j => .store (s + 1 + BitVec.ofNat 32 j) (romByte code j)) =
      [HostAction.store s 0x55, .store (s + 1) (code.extractLsb' 0 8), .store (s + 2) (code.extractLsb' 8 8),
       .store (s + 3) (code.extractLsb' 16 8), .store (s + 4) (code.extractLsb' 24 8),
       .store (s + 5) (code.extractLsb' 32 8), .store (s + 6) (code.extractLsb' 40 8),
       .store (s + 7) (code.extractLsb' 48 8), .store (s + 8) (code.extractLsb' 56 8)] := by
  have haddr (j : Nat) : s + 1 + BitVec.ofNat 32 j = s + BitVec.ofNat 32 (1 + j) := by
    rw [BitVec.add_assoc, BitVec.ofNat_add]
    rfl
  simp only [haddr]
  rfl

/-- Settles O46: HALT by the run's end that it records, and the expansions by evaluation. -/
theorem statementsExpandToTheirAccesses : Obligations.StatementsExpandToTheirAccesses := by
  refine ⟨fun s who rest h hact => ?halt, fun s who act rest hhalted h => ?halted,
    fun a n d s r b code => ?expansions⟩
  case halt =>
    exact ⟨_, (step_host s who _ rest h).1 hact, State.runEnd_eq_success _, State.runEnd_eq_faulted _⟩
  case halted => exact (step_host s who act rest h).2 (State.isDone_of_halted hhalted)
  case expansions =>
    refine ⟨rfl, rfl, rfl, rfl, rfl, rfl, rfl, rfl, rfl, rfl, rfl, rfl, rfl, rfl, rfl, ?_⟩
    rw [← matchrom_stores s code]
    rfl

end Sys2Proof.Machine
end

section
/-! PROOF. O23: the CRC-8 function and its laws (40_crc8.md R140, R142). -/

namespace Sys2Proof.Machine

/-! ### The inner step, and a byte folded in by eight of them (40_crc8.md R140) -/

/-- The inner step folds in the bits of the byte and those of the register alike: it is linear in both. -/
theorem crcStep_xor (a b c d : Byte) : crcStep (a ^^^ b) (c ^^^ d) = crcStep a c ^^^ crcStep b d := by
  have hshift : (a ^^^ b) >>> 1 = a >>> 1 ^^^ b >>> 1 := BitVec.ushiftRight_xor_distrib a b 1
  have hmix : (a ^^^ b ^^^ (c ^^^ d)).getLsbD 0 = ((a ^^^ c).getLsbD 0 ^^ (b ^^^ d).getLsbD 0) := by
    rw [← BitVec.getLsbD_xor]
    congr 1
    ac_rfl
  unfold crcStep
  rw [hshift, hmix]
  generalize a >>> 1 = x, b >>> 1 = y
  cases (a ^^^ c).getLsbD 0 <;> cases (b ^^^ d).getLsbD 0
  case false.false => rfl
  case false.true => exact BitVec.xor_assoc x y crcPoly
  case true.false =>
    show x ^^^ y ^^^ crcPoly = x ^^^ crcPoly ^^^ y
    ac_rfl
  case true.true =>
    show x ^^^ y = x ^^^ crcPoly ^^^ (y ^^^ crcPoly)
    rw [BitVec.xor_assoc, BitVec.xor_comm y, ← BitVec.xor_assoc crcPoly, BitVec.xor_self, BitVec.zero_xor]

/-- A register equal to the byte meets no polynomial: mix is 0. -/
theorem crcStep_self (c : Byte) : crcStep c c = c >>> 1 := by
  simp [crcStep]

/-- The polynomial has its top bit set, so an inner step clears only the register that is clear already. -/
theorem eq_zero_of_crcStep_eq_zero {c : Byte} (h : crcStep c 0#8 = 0#8) : c = 0#8 := by
  decide +revert

theorem crcBits_xor (n : Nat) (a b c d : Byte) : crcBits n (a ^^^ b) (c ^^^ d) = crcBits n a c ^^^ crcBits n b d := by
  induction n generalizing a b c d with
  | zero => rfl
  | succ n ih => rw [crcBits, crcStep_xor, BitVec.ushiftRight_xor_distrib, ih, ← crcBits, ← crcBits]

theorem crcBits_self (n : Nat) (c : Byte) : crcBits n c c = c >>> n := by
  induction n generalizing c with
  | zero => rfl
  | succ n ih => rw [crcBits, crcStep_self, ih, ← BitVec.shiftRight_add, Nat.add_comm]

theorem eq_zero_of_crcBits_eq_zero {n : Nat} {c : Byte} (h : crcBits n c 0#8 = 0#8) : c = 0#8 := by
  induction n generalizing c with
  | zero => exact h
  | succ n ih => exact eq_zero_of_crcStep_eq_zero (ih h)

/-- The inner steps as a loop over the bit numbers of the byte. -/
theorem crcBits_eq_foldl (n : Nat) (c d : Byte) :
    crcBits n c d = (List.range n).foldl (fun crc i => crcStep crc (d >>> i)) c := by
  induction n generalizing c d with
  | zero => rfl
  | succ n ih =>
    have hshift (i : Nat) : d >>> 1 >>> i = d >>> (i + 1) := by rw [← BitVec.shiftRight_add, Nat.add_comm]
    rw [crcBits, ih, List.range_succ_eq_map, List.foldl_cons, List.foldl_map]
    simp only [hshift, Nat.succ_eq_add_one, BitVec.ushiftRight_zero]

theorem crcByte_xor (a b c d : Byte) : crcByte (a ^^^ b) (c ^^^ d) = crcByte a c ^^^ crcByte b d :=
  crcBits_xor 8 a b c d

/-- Only the byte that equals the register clears it. -/
theorem crcByte_eq_zero_iff (c d : Byte) : crcByte c d = 0#8 ↔ c = d := by
  have hself (x : Byte) : crcByte x x = 0#8 := (crcBits_self 8 x).trans (BitVec.ushiftRight_eq_zero le_rfl)
  constructor
  · intro h
    have hdiff : crcByte (c ^^^ d) (d ^^^ d) = 0#8 := by rw [crcByte_xor, h, hself, BitVec.xor_self]
    rw [BitVec.xor_self] at hdiff
    exact BitVec.xor_eq_zero_iff.1 (eq_zero_of_crcBits_eq_zero hdiff)
  · rintro rfl
    exact hself c

/-- Two bytes leave the same register exactly where they differ as the registers before them did. -/
theorem crcByte_eq_iff (a b c d : Byte) : crcByte a c = crcByte b d ↔ a ^^^ b = c ^^^ d := by
  rw [← BitVec.xor_eq_zero_iff, ← crcByte_xor, crcByte_eq_zero_iff]

/-! ### Byte strings -/

theorem crc8_append (as bs : List Byte) : crc8 (as ++ bs) = bs.foldl crcByte (crc8 as) := List.foldl_append

theorem crc8_concat (bytes : List Byte) (d : Byte) : crc8 (bytes ++ [d]) = crcByte (crc8 bytes) d :=
  crc8_append bytes [d]

theorem crc8_singleton (b : Byte) : crc8 [b] = crcByte 0#8 b := rfl

/-- The append law and its converse: exactly its own checksum brings a string's CRC to 0 (40_crc8.md R142 law 1). -/
theorem crc8_concat_eq_zero_iff (bytes : List Byte) (d : Byte) : crc8 (bytes ++ [d]) = 0 ↔ crc8 bytes = d := by
  rw [crc8_concat]
  exact crcByte_eq_zero_iff _ d

/-- Linearity from any two registers (R142 law 2). -/
theorem foldl_crcByte_zipWith_xor {as bs : List Byte} (h : as.length = bs.length) (x y : Byte) :
    (List.zipWith (· ^^^ ·) as bs).foldl crcByte (x ^^^ y) = as.foldl crcByte x ^^^ bs.foldl crcByte y := by
  induction as generalizing bs x y with
  | nil =>
    obtain rfl := List.length_eq_zero_iff.1 h.symm
    rfl
  | cons a as ih =>
    cases bs with
    | nil => cases h
    | cons b bs =>
      simp only [List.zipWith_cons_cons, List.foldl_cons, crcByte_xor]
      exact ih (Nat.succ.inj h) _ _

/-- A string folded in keeps different registers different. -/
theorem foldl_crcByte_injective (bytes : List Byte) : Function.Injective fun crc => bytes.foldl crcByte crc := by
  induction bytes with
  | nil => exact fun _ _ h => h
  | cons d bytes ih =>
    intro x y h
    have hd := (crcByte_eq_iff x y d d).1 (ih h)
    rwa [BitVec.xor_self, BitVec.xor_eq_zero_iff] at hd

/-- Two strings that differ in one byte have different checksums. -/
theorem crc8_ne_of_byte_ne (pre post : List Byte) {b d : Byte} (h : b ≠ d) :
    crc8 (pre ++ [b] ++ post) ≠ crc8 (pre ++ [d] ++ post) := by
  rw [crc8_append _ post, crc8_append _ post, crc8_concat, crc8_concat]
  refine (foldl_crcByte_injective post).ne fun hbyte => h ?_
  rw [crcByte_eq_iff, BitVec.xor_self] at hbyte
  exact BitVec.xor_eq_zero_iff.1 hbyte.symm

/-- The table's index is the register with the byte folded in at once (R142 law 4). -/
theorem crcByte_eq_table (crc b : Byte) : crcByte crc b = crc8 [crc ^^^ b] := by
  rw [crc8_singleton, crcByte_eq_iff, BitVec.xor_zero, BitVec.xor_comm crc, ← BitVec.xor_assoc, BitVec.xor_self,
    BitVec.zero_xor]

/-- Settles O23: the inner step is linear and clears only a clear register, so a byte folded in clears the register
exactly where it equals it, and the four laws follow by induction over the bytes. -/
theorem crc8Laws : Obligations.Crc8Laws := by
  refine ⟨rfl, ?steps, by decide, by decide, ?append, ?romCode, ?linear, ?singleBit, ?table⟩
  case steps => exact fun bytes d => (crc8_concat bytes d).trans (crcBits_eq_foldl 8 _ d)
  case append => exact fun bytes => (crc8_concat_eq_zero_iff bytes _).2 rfl
  case romCode =>
    intro code hlen
    have hcode : code.take 7 ++ [code[7]!] = code := by
      rw [getElem!_pos code 7 (by omega), List.take_append_getElem, List.take_of_length_le (by omega)]
    rw [← crc8_concat_eq_zero_iff, hcode]
  case linear => exact fun a b h => foldl_crcByte_zipWith_xor h 0 0
  case singleBit =>
    intro pre post b k hk
    refine crc8_ne_of_byte_ne pre post fun h => ?_
    have hbit := congrArg (·.getLsbD k) h
    simp [hk] at hbit
  case table =>
    intro bytes
    simp only [← crcByte_eq_table]
    rfl

end Sys2Proof.Machine
end

section
/-! PROOF. O22: the command CRC8 (40_crc8.md R141). -/

namespace Sys2Proof.Machine

section
variable {s : State}

/-- With no fault recorded, the first check that fails raises its fault (60_exceptions.md R275). -/
theorem State.issue_of_firstCause (hv : s.fault.valid = false) {info : Byte} {checks : List (Bool × FaultCause)}
    {acc : Result} {c : FaultCause} (h : firstCause checks = some c) :
    s.issue info checks acc = .next (s.raiseFault c info) := by
  simp [State.issue, hv, h]

/-- With no fault recorded and no check failing, a command is accepted (60_exceptions.md R275). -/
theorem State.issue_of_checksPass (hv : s.fault.valid = false) {info : Byte} {checks : List (Bool × FaultCause)}
    {acc : Result} (h : firstCause checks = none) : s.issue info checks acc = acc := by
  simp [State.issue, hv, h]

theorem State.lengthBad_iff : s.lengthBad = true ↔ s.params.countMax < s.arg1.toNat := decide_eq_true_iff

theorem State.lengthBad_eq_false (h : s.arg1.toNat ≤ s.params.countMax) : s.lengthBad = false := by
  rw [← Bool.not_eq_true, State.lengthBad_iff]
  omega

/-- The bytes CRC8 reads: those of a valid buffer, and none of an empty one, whose address is not looked at. -/
theorem State.readBytes_of_emptyOrValid {a len : Nat} (h : len = 0 ∨ s.validRange a len = true) :
    s.readBytes a len = some ((List.range len).map (fun j => s.mem.read (a + j))) := by
  rcases h with rfl | h
  · rfl
  · exact s.readBytes_of_validRange a len h

end

/-- Settles O22: the first check that fails decides, and where none fails the bytes of the buffer are read. -/
theorem crc8ReturnsTheBufferChecksum : Obligations.Crc8ReturnsTheBufferChecksum := by
  refine fun s hv => ⟨fun hw => ?busy, fun hw hmax => ?length, fun hw hmax hpos hvalid => ?buffer,
    fun hw hmax hbuf => ?accepted⟩
  case busy => exact State.issue_of_firstCause hv (by simp [hw])
  case length => exact State.issue_of_firstCause hv (by simp [hw, State.lengthBad_iff.2 hmax])
  case buffer =>
    have hbad : (decide (s.countOperand > 0) && !s.validRange s.addrOperand s.countOperand) = true := by
      simpa [State.addrOperand, State.countOperand, Nat.pos_iff_ne_zero] using And.intro hpos hvalid
    exact State.issue_of_firstCause hv (by simp [hw, State.lengthBad_eq_false hmax, hbad])
  case accepted =>
    have hgood : (decide (s.countOperand > 0) && !s.validRange s.addrOperand s.countOperand) = false := by
      simpa [State.addrOperand, State.countOperand, or_iff_not_imp_left, Nat.pos_iff_ne_zero] using hbuf
    calc exec .crc8 s
      _ = s.respond ((s.readBytes s.arg0.toNat s.arg1.toNat).map
            (fun bytes => { s with result := (crc8 bytes).setWidth 32 })) :=
          State.issue_of_checksPass hv (by simp [hw, State.lengthBad_eq_false hmax, hgood])
      _ = _ := by rw [State.readBytes_of_emptyOrValid hbuf, Option.map_some, State.respond_some]

end Sys2Proof.Machine
end

section
/-! PROOF. The responses to MASTER and SAMPLE, one equation for each of their branches (41_bit_io.md R158 to R166;
42_search_rom.md R211 to R218). -/

namespace Sys2Proof.Machine

section
variable {s t : State}

/-! ### MASTER -/

theorem State.masterReset_final (hf : s.status.finalTimeslot = true) :
    s.masterReset = s.complete (flagWord s.status.slavePresent) := if_pos hf

theorem State.masterReset_pulse (hf : s.status.finalTimeslot = false) : s.masterReset = some s.enterFinal :=
  if_neg (by simp [hf])

theorem State.masterRead_final (hf : s.status.finalTimeslot = true) : s.masterRead = s.complete 0 := if_pos hf

theorem State.masterRead_last (hf : s.status.finalTimeslot = false) (h1 : s.status.bytes = 1) (h7 : s.status.bit = 7) :
    s.masterRead = some s.enterFinal := by
  simp [State.masterRead, hf, h1, h7]

theorem State.masterRead_bit (hf : s.status.finalTimeslot = false) (h : s.status.bytes ≠ 1 ∨ s.status.bit ≠ 7) :
    s.masterRead = some s := by
  rw [State.masterRead, if_neg (by simp [hf]), if_neg (not_and_or.2 h)]

theorem State.masterWrite_final (hf : s.status.finalTimeslot = true) : s.masterWrite = s.finishWrite := if_pos hf

theorem State.masterWrite_last (hf : s.status.finalTimeslot = false) (h0 : s.status.bytes = 0) :
    s.masterWrite = some s.enterFinal := by
  simp [State.masterWrite, hf, h0]

theorem State.masterWrite_bit (hf : s.status.finalTimeslot = false) (h0 : s.status.bytes ≠ 0) :
    s.masterWrite = (s.setNextLow (lowW (s.wbyte.getLsbD s.status.bit.toNat))).advW := by
  rw [State.masterWrite, if_neg (by simp [hf]), if_neg h0]

theorem State.byteAt_memory {a : Nat} (hsrc : s.wsrc = .memory) (ha : s.byteAdmitted a = true) :
    s.byteAt a = some (s.mem.read a) := by
  rw [State.byteAt, hsrc]
  exact (s.memRead_eq_some a _).2 ⟨ha, rfl⟩

theorem State.byteAt_searchRom (hsrc : s.wsrc = .searchRom) (a : Nat) : s.byteAt a = some s.params.cmdSearchRom := by
  rw [State.byteAt, hsrc]

/-- Where a byte is used up and another one is to come, AdvW fetches it (41_bit_io.md R164). -/
theorem State.advW_fetch {b : Byte} (h7 : s.status.bit = 7) (h1 : s.status.bytes ≠ 1)
    (hb : s.byteAt s.nextCursor.toNat = some b) :
    s.advW = some { s with
      status := { s.status with bit := 0, bytes := s.status.bytes - 1 }, cursor := s.nextCursor, wbyte := b } := by
  rcases s.advW_cases with ⟨hne, -⟩ | ⟨-, heq, -⟩ | ⟨-, -, c, hc, ha⟩ | ⟨-, -, hnone, -⟩
  · exact absurd h7 hne
  · exact absurd heq h1
  · cases hb.symm.trans hc
    exact ha
  · cases hb.symm.trans hnone

theorem State.finishWrite_pullup (hn : s.status.needPullup = true) : s.finishWrite = some s.startPullup := if_pos hn

theorem State.finishWrite_complete (hn : s.status.needPullup = false) : s.finishWrite = s.complete 0 :=
  if_neg (by simp [hn])

theorem State.masterTriplet_final (hf : s.status.finalTimeslot = true) : s.masterTriplet = s.complete 0 := if_pos hf

/-- Before the final timeslot a triplet's MASTER programs at most next_low, or begins slot W of the last bit. -/
theorem State.masterTriplet_cases (hf : s.status.finalTimeslot = false) :
    (s.search.bitStep = .slotW ∧ s.search.rombit = 63 ∧ s.masterTriplet = some s.enterFinal) ∨
      ∃ k, s.masterTriplet = some (s.setNextLow k) := by
  unfold State.masterTriplet
  rw [if_neg (by simp [hf])]
  cases s.search.bitStep with
  | slotA => exact .inr ⟨_, rfl⟩
  | slotB => exact .inr ⟨s.pgctl.nextLow, rfl⟩
  | slotW =>
    by_cases hr : s.search.rombit = 63
    · exact .inl ⟨rfl, hr, if_pos hr⟩
    · exact .inr ⟨_, if_neg hr⟩

/-! ### SAMPLE -/

/-- The accumulator after the bit `pin` of a READ (41_bit_io.md R162). -/
def State.accWith (s : State) (pin : Bool) : Byte := putBit s.acc s.status.bit.toNat pin

theorem State.sampleRead_bit {pin : Bool} (h7 : s.status.bit ≠ 7) :
    s.sampleRead pin = some { s with
      acc := s.accWith pin, status := { s.status with bit := s.status.bit + 1 } } := if_neg h7

/-- What the last bit of a READ's byte can do: the byte is stored, where the cursor's byte is admitted. -/
theorem State.sampleRead_byte_eq_some {pin : Bool} (h7 : s.status.bit = 7) :
    s.sampleRead pin = some t ↔
      s.byteAdmitted s.cursor.toNat = true ∧
      t = { s with
        mem := s.mem.write s.cursor.toNat (s.accWith pin)
        cursor := s.nextCursor
        acc := 0
        status := { s.status with bytes := s.status.bytes - 1, bit := 0 }
        pgctl := { s.pgctl with sampleEn := if s.status.bytes - 1 = 0 then false else s.pgctl.sampleEn } } := by
  rw [State.sampleRead, if_pos h7]
  exact State.storeReadByte_eq_some _ t

/-- What slot B's SAMPLE can do: the pass is aborted, or slot W carries a bit, which a conflict's branch can choose. -/
theorem State.sampleSlotB_cases (s : State) (pin : Bool) :
    ∃ bits, s.sampleSlotB pin = State.abortPass { s with search := { s.search with bitBuf := bits } } ∨
      ∃ v single branch, s.sampleSlotB pin = State.storeAndWrite { s with
        branch := branch, search := { s.search with bitBuf := bits, singleDevice := single } } v := by
  refine ⟨putBit s.search.bitBuf 1 pin, ?_⟩
  simp only [State.sampleSlotB]
  split
  · exact .inl rfl
  · exact .inr ⟨_, s.search.singleDevice, s.branch, rfl⟩
  · exact .inr ⟨_, s.search.singleDevice, s.branch, rfl⟩
  · exact .inr ⟨_, _, _, rfl⟩

/-! ### Events that have no response (41_bit_io.md R155) -/

theorem exec_master_spurious (ha : s.Answers)
    (h : s.masterDue = false ∨ s.status.op = .none ∨ s.status.op = .pullup) :
    exec (.master false) s = .next (s.raiseFault .spuriousEvent 1) := by
  simp only [exec, execMaster, State.ignoresEvents, ha.1, ha.2]
  cases hd : s.masterDue with
  | false => rfl
  | true => rcases h.resolve_left (by simp [hd]) with hop | hop <;> rw [hop] <;> rfl

theorem exec_sample_spurious (pin : Bool) (ha : s.Answers)
    (h : s.sampleDue = false ∨ s.status.op = .none ∨ s.status.op = .write ∨ s.status.op = .pullup) :
    exec (.sample pin) s = .next (s.raiseFault .spuriousEvent 2) := by
  simp only [exec, execSample, State.ignoresEvents, ha.1, ha.2]
  cases hd : s.sampleDue with
  | false => rfl
  | true => rcases h.resolve_left (by simp [hd]) with hop | hop | hop <;> rw [hop] <;> rfl

theorem exec_pullupEnd_spurious (ha : s.Answers) (h : s.status.op ≠ .pullup) :
    exec (.pullupEnd false) s = .next (s.raiseFault .spuriousEvent 3) := by
  simp only [exec, execPullupEnd, State.ignoresEvents, ha.1, ha.2]
  cases hop : s.status.op with
  | pullup => exact absurd hop h
  | _ => rfl

/-- PULLUP_END resumes the host (41_bit_io.md R167). -/
theorem exec_pullupEnd_of_pullup (ha : s.Answers) (hop : s.status.op = .pullup) :
    exec (.pullupEnd false) s = .next s.endPullup := by
  simp [exec, execPullupEnd, State.ignoresEvents, ha.1, ha.2, hop]

/-! ### The response of the operation in flight -/

section
variable (hm : s.MasterReady)
include hm

theorem exec_master_reset (hop : s.status.op = .reset) :
    exec (.master false) s = s.respond s.latchSlot.masterReset := by
  rw [exec_master_of_ready s hm, hop]

theorem exec_master_read (hop : s.status.op = .read) : exec (.master false) s = s.respond s.latchSlot.masterRead := by
  rw [exec_master_of_ready s hm, hop]

theorem exec_master_write (hop : s.status.op = .write) :
    exec (.master false) s = s.respond s.latchSlot.masterWrite := by
  rw [exec_master_of_ready s hm, hop]

/-- A MASTER in PG's order is answered by the operation in flight. -/
theorem exec_master_answers (hop : s.status.op ≠ .none ∧ s.status.op ≠ .pullup) :
    ∃ r, s.latchSlot.AnswersMaster r ∧ exec (.master false) s = s.respond r := by
  rw [exec_master_of_ready s hm]
  cases h : s.status.op with
  | none => exact absurd h hop.1
  | reset => exact ⟨_, .reset h, rfl⟩
  | read => exact ⟨_, .read h, rfl⟩
  | write => exact ⟨_, .write h, rfl⟩
  | triplet => exact ⟨_, .triplet h, rfl⟩
  | pullup => exact absurd h hop.2

end

section
variable (pin : Bool) (hm : s.SampleReady)
include hm

theorem exec_sample_reset (hop : s.status.op = .reset) :
    exec (.sample pin) s = .next (s.closeSlot.sampleReset pin) := by
  rw [exec_sample_of_ready s pin hm, hop]

theorem exec_sample_read (hop : s.status.op = .read) :
    exec (.sample pin) s = s.respond (s.closeSlot.sampleRead pin) := by
  rw [exec_sample_of_ready s pin hm, hop]

/-- A SAMPLE in PG's order is answered by an operation that samples. -/
theorem exec_sample_answers (hop : s.status.op ≠ .none ∧ s.status.op ≠ .pullup ∧ s.status.op ≠ .write) :
    ∃ r, s.closeSlot.AnswersSample pin r ∧ exec (.sample pin) s = s.respond r := by
  rw [exec_sample_of_ready s pin hm]
  cases h : s.status.op with
  | none => exact absurd h hop.1
  | reset => exact ⟨_, .reset h, rfl⟩
  | read => exact ⟨_, .read h, rfl⟩
  | write => exact absurd h hop.2.2
  | triplet => exact ⟨_, .triplet h, rfl⟩
  | pullup => exact absurd h hop.2.1

end

end

end Sys2Proof.Machine
end

section
/-! PROOF. O24 to O26: the acceptance of RESET, READ and WRITE (41_bit_io.md R160, R163, R168). -/

namespace Sys2Proof.Machine

section
variable {s : State}

theorem State.countOperand_setWidth (s : State) : BitVec.ofNat 16 s.countOperand = s.arg1.setWidth 16 :=
  BitVec.ofNat_toNat 16 s.arg1

section
variable (hs : s.IssueReady) (hready : s.status.state = .ready)
include hs hready

theorem exec_reset_accepts : exec .reset s = .next s.block.armReset :=
  State.issue_of_checksPass hs.1 (by simp [hs.2, hready, State.stateIsNot])

section
variable (h1 : 1 ≤ s.arg1.toNat) (hmax : s.arg1.toNat ≤ s.params.countMax)
  (hvalid : s.validRange s.arg0.toNat s.arg1.toNat = true)
include h1 hmax hvalid

/-- With a legal count and a valid buffer, READ and WRITE pass their checks. -/
theorem State.issue_accepts_buffer (info : Byte) (acc : Result) :
    s.issue info [(s.status.waiter, .busy), (s.stateIsNot .ready, .badState), (s.countBad, .badCount),
      (!s.validRange s.addrOperand s.countOperand, .badBuffer)] acc = acc := by
  replace hvalid : s.validRange s.addrOperand s.countOperand = true := hvalid
  exact State.issue_of_checksPass hs.1
    (by simp [hs.2, hready, State.stateIsNot, State.countBad_eq_false h1 hmax, hvalid])

theorem exec_read_accepts : exec .read s = .next s.acceptRead :=
  State.issue_accepts_buffer hs hready h1 hmax hvalid _ _

theorem exec_write_accepts : exec .write s = .next (s.writeAccepted (s.mem.read s.arg0.toNat)) := by
  have hb := State.memRead_of_countOk (State.countBad_eq_false h1 hmax) hvalid
  calc exec .write s
    _ = s.respond s.acceptWrite := State.issue_accepts_buffer hs hready h1 hmax hvalid _ _
    _ = _ := by rw [State.acceptWrite_eq hb]; rfl

end

end

/-- An accepted count fits STATUS.bytes (30_encoding.md R103). -/
theorem State.count_fits (hok : s.params.ok = true) (h1 : 1 ≤ s.arg1.toNat) (hmax : s.arg1.toNat ≤ s.params.countMax) :
    (s.arg1.setWidth 16).toNat = s.arg1.toNat := by
  rw [← s.countOperand_setWidth]
  exact State.bytes_of_countOk hok (State.countBad_eq_false h1 hmax)

end

/-- Settles O24: neither check fails, and armReset writes the fields. -/
theorem resetArmsThePresenceSlot : Obligations.ResetArmsThePresenceSlot :=
  fun _ hs hready => exec_reset_accepts hs hready

/-- Settles O25: no check fails, and the count is not truncated. -/
theorem readArmsItsFirstSlot : Obligations.ReadArmsItsFirstSlot := by
  intro s hs hready hok h1 hmax hvalid
  refine ⟨State.count_fits hok h1 hmax, ?_⟩
  rw [exec_read_accepts hs hready h1 hmax hvalid, ← s.countOperand_setWidth]
  rfl

/-- Settles O26: no check fails, the first byte is admitted, and AdvW only moves to bit 1. -/
theorem writeProgramsItsFirstBit : Obligations.WriteProgramsItsFirstBit := by
  intro s hs hready hok h1 hmax hvalid
  have hbits : s.arg2.toNat % 2 ^ s.params.puBits < 2 ^ 32 := lt_of_le_of_lt (Nat.mod_le _ _) s.arg2.isLt
  refine ⟨State.count_fits hok h1 hmax, s.durationOperand, Nat.mod_eq_of_lt hbits, ?_⟩
  rw [exec_write_accepts hs hready h1 hmax hvalid, ← s.countOperand_setWidth]
  rfl

end Sys2Proof.Machine
end

section
/-! PROOF. O15 and O28 to O35: the slot events of RESET, READ and WRITE (41_bit_io.md R155 to R167). -/

namespace Sys2Proof.Machine

/-- Settles O15: out of PG's order no response is looked for, and NONE and PULLUP have none to a slot's events. -/
theorem spuriousEventsFault : Obligations.SpuriousEventsFault := by
  refine fun s pin ha => ⟨fun h => exec_master_spurious ha ?_, fun h => exec_sample_spurious pin ha ?_,
    exec_pullupEnd_spurious ha⟩
  · rcases h with hrun | hop | hop | ⟨hopen, hen⟩
    · exact .inl (by simp [State.masterDue, hrun])
    · exact .inr (.inl hop)
    · exact .inr (.inr hop)
    · exact .inl (by simp [State.masterDue, hopen, hen])
  · rcases h with hrun | hen | hop | hop | hop | hclosed
    · exact .inl (by simp [State.sampleDue, hrun])
    · exact .inl (by simp [State.sampleDue, hen])
    · exact .inr (.inl hop)
    · exact .inr (.inr (.inl hop))
    · exact .inr (.inr (.inr hop))
    · exact .inl (by simp [State.sampleDue, hclosed])

/-- Complete, where no SEARCH is in flight. -/
theorem State.complete_of_idle {s : State} (hp : s.search.phase = .idle) (v : Word) :
    s.complete v = some (s.endOp.resume v) := by
  rw [State.complete_eq, if_pos hp]

/-- Settles O28: by whether a SEARCH is in flight. -/
theorem completeResumesOrReturnsToSearch : Obligations.CompleteResumesOrReturnsToSearch := by
  refine fun s v => ⟨fun hp => State.complete_of_idle hp v, fun hp => ?_⟩
  rw [State.complete_eq, if_neg hp]
  rfl

/-- Settles O29: the pulse slot is followed by the final timeslot, whose MASTER completes. -/
theorem masterInResetSlot : Obligations.MasterInResetSlot := by
  intro s hm hop
  rw [exec_master_reset hm hop]
  refine ⟨fun hf => ?_, fun hf => ?_, fun hf hp => ?_⟩
  · rw [State.masterReset_pulse (by exact hf)]
    rfl
  · rw [State.masterReset_final (by exact hf)]
    rfl
  · rw [State.masterReset_final (by exact hf), State.complete_of_idle (by exact hp)]
    rfl

/-- Settles O30: the presence pulse is low. -/
theorem sampleInResetSlot : Obligations.SampleInResetSlot := by
  intro s pin hm hop
  rw [exec_sample_reset pin hm hop]
  cases pin <;> rfl

/-- Settles O31: by the final timeslot, and by the last bit of the last byte. -/
theorem masterInReadSlot : Obligations.MasterInReadSlot := by
  intro s hm hop
  rw [exec_master_read hm hop]
  refine ⟨fun hf => ?_, fun hf h1 h7 => ?_, fun hf h => ?_⟩
  · rw [State.masterRead_final (by exact hf)]
  · rw [State.masterRead_last (by exact hf) (by exact h1) (by exact h7)]
    rfl
  · rw [State.masterRead_bit (by exact hf) (by exact h)]
    rfl

/-- Settles O32: by whether the bit completes its byte. -/
theorem sampleInReadSlot : Obligations.SampleInReadSlot := by
  intro s pin hm hop
  rw [exec_sample_read pin hm hop]
  refine ⟨s.accWith pin, fun j hj => putBit_getLsbD _ _ j _ hj, fun h7 => ?_, fun h7 hadm => ?_⟩
  · rw [State.sampleRead_bit (by exact h7)]
    rfl
  · have hlast : s.status.bytes - 1 = 0 ↔ s.status.bytes = 1 := BitVec.sub_eq_iff_eq_add
    simp only [← hlast]
    exact congrArg s.respond ((State.sampleRead_byte_eq_some (s := s.closeSlot) h7).2 ⟨hadm, rfl⟩)

/-- Settles O33: by the final timeslot, by the bits left, and by what AdvW does after the bit. -/
theorem masterInWriteSlot : Obligations.MasterInWriteSlot := by
  intro s hm hop next low
  have bit (hf : s.status.finalTimeslot = false) (h0 : s.status.bytes ≠ 0) {t : State}
      (h : (s.latchSlot.setNextLow low).advW = some t) : exec (.master false) s = .next t := by
    rw [exec_master_write hm hop, State.masterWrite_bit (by exact hf) (by exact h0)]
    exact congrArg s.respond h
  refine ⟨fun hf => ?_, fun hf h0 => ?_, fun hf h0 h7 => ?_, fun hf h1 h7 => ?_,
    fun hf h0 h1 h7 hsrc hadm => ?_, fun hf h0 h1 h7 hsrc => ?_⟩
  · rw [exec_master_write hm hop, State.masterWrite_final (by exact hf)]
  · rw [exec_master_write hm hop, State.masterWrite_last (by exact hf) (by exact h0)]
    rfl
  · exact bit hf h0 (State.advW_within _ h7)
  · exact bit hf (by simp [h1]) (State.advW_last _ h7 h1)
  · exact bit hf h0 (State.advW_fetch h7 h1 (State.byteAt_memory hsrc hadm))
  · exact bit hf h0 (State.advW_fetch h7 h1 (State.byteAt_searchRom hsrc _))

/-- Settles O34: by need_pullup. -/
theorem finishWriteStartsThePullup : Obligations.FinishWriteStartsThePullup :=
  fun _ => ⟨State.finishWrite_pullup, State.finishWrite_complete⟩

/-- Settles O35: PULLUP is the one operation that PULLUP_END ends. -/
theorem pullupEndResumesTheHost : Obligations.PullupEndResumesTheHost :=
  fun _ ha hop => exec_pullupEnd_of_pullup ha hop

end Sys2Proof.Machine
end

section
/-! PROOF. O56: a blocked host is resumed within its bound (60_exceptions.md R274; 41_bit_io.md R170, R172;
42_search_rom.md R223). The events still to come are counted (`State.eventsLeft`), and every event takes at least one off. -/

namespace Sys2Proof.Machine

/-! ### The events still to come -/

/-- The slots of a triplet that are still to end (10_state.md R50). -/
def BitStep.slotsLeft : BitStep → Nat
  | .slotA => 3
  | .slotB => 2
  | .slotW => 1

/-- 1 while a slot has begun whose sample point is still to come. -/
def State.openSlots (s : State) : Nat := if s.pg.slotOpen then 1 else 0

/-- The events of an operation that samples: those of the final timeslot, and `n` before it in a slot not begun. -/
def State.sampledLeft (s : State) (n : Nat) : Nat :=
  if s.status.finalTimeslot then 1 + s.openSlots else n + 1 - s.openSlots

/-- The events that come before the operation in flight ends (41_bit_io.md R158 to R167; 42_search_rom.md R211 to
R218). -/
def State.opEventsLeft (s : State) : Nat :=
  match s.status.op with
  | .none => 0
  | .reset => s.sampledLeft 2
  | .read => s.sampledLeft (2 * (8 * s.status.bytes.toNat - s.status.bit.toNat))
  | .write => 8 * s.status.bytes.toNat - s.status.bit.toNat + (if s.status.finalTimeslot then 1 else 2)
  | .triplet => s.sampledLeft (6 * (63 - s.search.rombit.toNat) + 2 * s.search.bitStep.slotsLeft)
  | .pullup => 1

/-- The events of the passes that the result buffer has room for after the one in progress (42_search_rom.md R202,
R223). -/
def State.passEvents (s : State) : Nat := 397 * (s.rmax.toNat - s.search.devicesFound.toNat - 1)

/-- The events that come after the operation in flight: those of a WRITE's power phase (41_bit_io.md R166), or of the
rest of a SEARCH (42_search_rom.md R201): 9 of the command byte and 385 of the triplets. -/
def State.laterEvents (s : State) : Nat :=
  match s.search.phase with
  | .idle => if s.status.needPullup then 1 else 0
  | .reset => 9 + (385 + s.passEvents)
  | .cmd => 385 + s.passEvents
  | .triplet => s.passEvents

/-- The events that come at most before the blocked host is resumed. -/
def State.eventsLeft (s : State) : Nat := if s.status.waiter then s.opEventsLeft + s.laterEvents else 0

section
variable {s t : State}

theorem State.eventsLeft_of_waiting (hw : s.status.waiter = true) : s.eventsLeft = s.opEventsLeft + s.laterEvents :=
  if_pos hw

theorem State.eventsLeft_of_resumed (hw : s.status.waiter = false) : s.eventsLeft = 0 :=
  if_neg (by simp [hw])

theorem State.eventsLeft_le (s : State) : s.eventsLeft ≤ s.opEventsLeft + s.laterEvents := by
  unfold State.eventsLeft
  split_ifs <;> omega

/-! ### The count, by operation and slot -/

theorem State.opEventsLeft_reset (hop : s.status.op = .reset) : s.opEventsLeft = s.sampledLeft 2 := by
  rw [State.opEventsLeft, hop]

theorem State.opEventsLeft_read (hop : s.status.op = .read) :
    s.opEventsLeft = s.sampledLeft (2 * (8 * s.status.bytes.toNat - s.status.bit.toNat)) := by
  rw [State.opEventsLeft, hop]

theorem State.opEventsLeft_write (hop : s.status.op = .write) :
    s.opEventsLeft = 8 * s.status.bytes.toNat - s.status.bit.toNat + (if s.status.finalTimeslot then 1 else 2) := by
  rw [State.opEventsLeft, hop]

theorem State.opEventsLeft_triplet (hop : s.status.op = .triplet) :
    s.opEventsLeft = s.sampledLeft (6 * (63 - s.search.rombit.toNat) + 2 * s.search.bitStep.slotsLeft) := by
  rw [State.opEventsLeft, hop]

theorem State.opEventsLeft_pullup (hop : s.status.op = .pullup) : s.opEventsLeft = 1 := by
  rw [State.opEventsLeft, hop]

theorem State.sampledLeft_final (hf : s.status.finalTimeslot = true) (n : Nat) : s.sampledLeft n = 1 + s.openSlots :=
  if_pos hf

theorem State.sampledLeft_slot (hf : s.status.finalTimeslot = false) (n : Nat) :
    s.sampledLeft n = n + 1 - s.openSlots :=
  if_neg (by simp [hf])

theorem State.openSlots_open (h : s.pg.slotOpen = true) : s.openSlots = 1 := if_pos h

theorem State.openSlots_closed (h : s.pg.slotOpen = false) : s.openSlots = 0 := if_neg (by simp [h])

theorem State.sampledLeft_le (s : State) (n : Nat) : s.sampledLeft n ≤ max 2 (n + 1) := by
  unfold State.sampledLeft State.openSlots
  split_ifs <;> omega

theorem BitStep.slotsLeft_le (b : BitStep) : b.slotsLeft ≤ 3 := by cases b <;> decide

/-- An operation that is about to end still has its last MASTER to come. -/
theorem State.opEventsLeft_pos_of_final (hop : s.status.op ≠ .none) (hf : s.status.finalTimeslot = true) :
    0 < s.opEventsLeft := by
  unfold State.opEventsLeft State.sampledLeft
  cases h : s.status.op <;> simp_all

/-! ### The bound -/

/-- A search pass's command is one byte at most (42_search_rom.md R205). -/
theorem State.Inv.searchCmd_bytes_le (hs : s.Inv) (hv : s.fault.valid = false) (hop : s.status.op = .write)
    (hsrc : s.wsrc = .searchRom) : s.status.bytes.toNat ≤ 1 := by
  obtain ⟨-, -, -, hbytes⟩ := (State.sequenceOk_write hop).1 (hs.sequence hv)
  by_cases h0 : s.status.bytes = 0
  · simp [h0]
  · simp [(hbytes h0).2.resolve_left (by simp [hsrc])]

/-- The count is within the bound of the operation in flight. -/
theorem State.Inv.eventsLeft_le_eventBound (hs : s.Inv) (hv : s.fault.valid = false) (hw : s.status.waiter = true) :
    s.eventsLeft ≤ s.eventBound := by
  obtain ⟨⟨hwait, -⟩, -, ⟨hidle, hreset, hcmd, htriplet, hroom⟩, -⟩ := hs.control hv
  have hsampled := s.sampledLeft_le
  have hslots := s.search.bitStep.slotsLeft_le
  rw [State.eventsLeft_of_waiting hw, State.eventBound]
  by_cases hp : s.search.phase = .idle
  · rw [if_neg (by simp [hp]), State.laterEvents, hp]
    have hn (hop : s.status.op ≠ .write) : s.status.needPullup = false := hs.needPullup_false hv hop
    cases hop : s.status.op with
    | none => exact absurd (hwait.1 hw) (by simp [hop, hp])
    | reset =>
      have := hsampled 2
      simp only [State.opEventsLeft_reset hop, hn (by simp [hop]), Bool.false_eq_true, if_false]
      omega
    | read =>
      have := hsampled (2 * (8 * s.status.bytes.toNat - s.status.bit.toNat))
      simp only [State.opEventsLeft_read hop, hn (by simp [hop]), Bool.false_eq_true, if_false]
      omega
    | write =>
      simp only [State.opEventsLeft_write hop]
      split_ifs <;> omega
    | triplet => exact absurd hop (hidle hp).1
    | pullup => simp [State.opEventsLeft_pullup hop, hn (by simp [hop])]
  · have hless : s.search.devicesFound.toNat < s.rmax.toNat := BitVec.lt_def.1 (hroom hp)
    rw [if_pos hp, State.laterEvents, State.passEvents]
    cases hphase : s.search.phase with
    | idle => exact absurd hphase hp
    | reset =>
      have := hsampled 2
      simp only [State.opEventsLeft_reset (hreset hphase)]
      omega
    | cmd =>
      obtain ⟨hop, hsrc⟩ := hcmd hphase
      have := hs.searchCmd_bytes_le hv hop hsrc
      simp only [State.opEventsLeft_write hop]
      split_ifs <;> omega
    | triplet =>
      have := hsampled (6 * (63 - s.search.rombit.toNat) + 2 * s.search.bitStep.slotsLeft)
      simp only [State.opEventsLeft_triplet (htriplet hphase)]
      omega

/-! ### Within an operation, and at its end -/

/-- Within an operation, what comes after it stays, so that the operation's own events decide. -/
theorem State.eventsLeft_lt_of_course (hw : s.status.waiter = true) (hc : t.course = s.course)
    (h : t.opEventsLeft < s.opEventsLeft) : t.eventsLeft < s.eventsLeft := by
  simp only [State.course, State.frame, Course.mk.injEq, Frame.mk.injEq] at hc
  obtain ⟨⟨-, -, -, -, -, -, -, -, -, -, -, -, -, -, hwaiter⟩, -, hphase, -, hneed, -, -, -, hfound, hrmax⟩ := hc
  have hlater : t.laterEvents = s.laterEvents := by
    simp only [State.laterEvents, State.passEvents, hphase, hneed, hfound, hrmax]
  rw [State.eventsLeft_of_waiting hw, State.eventsLeft_of_waiting (hwaiter.trans hw), hlater]
  omega

/-- After a pass the host is resumed, or the next pass starts in the room that is left (42_search_rom.md R202, R221). -/
theorem State.srcAfterPass_eventsLeft_le (hroom : s.search.devicesFound < s.rmax) (h : s.srcAfterPass = some t) :
    t.eventsLeft ≤ s.passEvents := by
  rcases s.srcAfterPass_cases with ⟨-, ha⟩ | ⟨-, -, ha⟩ | ⟨-, u, hu, ha⟩ | ⟨-, u, hu, ha⟩ <;> rw [ha] at h <;> cases h
  · exact Nat.zero_le _
  · exact Nat.zero_le _
  · rw [(State.srcRecord_frame s u hu).1, State.srcNextPass]
    split_ifs with hfull
    · exact Nat.zero_le _
    · replace hfull : s.search.devicesFound + 1 ≠ s.rmax := hfull
      have : (s.search.devicesFound + 1).toNat = s.search.devicesFound.toNat + 1 ∧
          s.search.devicesFound.toNat + 1 < s.rmax.toNat := by bv_omega
      refine (State.eventsLeft_le _).trans ?_
      show 3 + (9 + (385 + 397 * (s.rmax.toNat - (s.search.devicesFound + 1).toNat - 1))) ≤
        397 * (s.rmax.toNat - s.search.devicesFound.toNat - 1)
      omega

/-- The SEARCH goes on with the next part of its pass, or resumes the host (42_search_rom.md R201). -/
theorem State.srcSubDone_eventsLeft_le (hp : s.search.phase ≠ .idle) (hroom : s.search.devicesFound < s.rmax) {v : Word}
    (h : s.srcSubDone v = some t) : t.eventsLeft ≤ s.laterEvents := by
  unfold State.srcSubDone at h
  rw [State.laterEvents]
  cases hphase : s.search.phase with
  | idle => exact absurd hphase hp
  | reset =>
    simp only [hphase] at h
    split_ifs at h
    · cases (if_pos rfl).symm.trans h
      exact Nat.zero_le _
    · rw [State.srcSendSearchCmd, State.armWrite_eq] at h
      cases h
      exact State.eventsLeft_le _
  | cmd =>
    simp only [hphase] at h
    cases h
    exact State.eventsLeft_le _
  | triplet =>
    simp only [hphase] at h
    exact State.srcAfterPass_eventsLeft_le (s := s.srcEndPass) hroom h

/-- The last MASTER of an operation that has no power phase (41_bit_io.md R157). -/
theorem State.Inv.complete_eventsLeft_lt (hs : s.Inv) (hv : s.fault.valid = false) (hw : s.status.waiter = true)
    (hop : s.status.op ≠ .none) (hf : s.status.finalTimeslot = true) {v : Word}
    (h : s.latchSlot.complete v = some t) : t.eventsLeft < s.eventsLeft := by
  obtain ⟨-, -, ⟨-, -, -, -, hroom⟩, -⟩ := hs.control hv
  have hlater : t.eventsLeft ≤ s.laterEvents := by
    rw [State.complete_eq] at h
    split_ifs at h with hp
    · cases h
      exact Nat.zero_le _
    · exact State.srcSubDone_eventsLeft_le (s := s.latchSlot.endOp) hp (hroom hp) h
  have := State.opEventsLeft_pos_of_final hop hf
  rw [State.eventsLeft_of_waiting hw]
  omega

/-- A WRITE's last MASTER hands over to PUT, whose event is the last one (41_bit_io.md R166). -/
theorem State.startPullup_eventsLeft_lt (hw : s.status.waiter = true) (hop : s.status.op = .write)
    (hf : s.status.finalTimeslot = true) (hp : s.search.phase = .idle) (hn : s.status.needPullup = true) :
    s.latchSlot.startPullup.eventsLeft < s.eventsLeft := by
  have hlater : s.laterEvents = 1 ∧ s.latchSlot.startPullup.laterEvents = 0 := by
    simp [State.laterEvents, State.startPullup, hp, hn]
  have hpullup : s.latchSlot.startPullup.opEventsLeft = 1 := rfl
  have := State.opEventsLeft_pos_of_final (by simp [hop]) hf
  have := s.latchSlot.startPullup.eventsLeft_le
  rw [State.eventsLeft_of_waiting hw]
  omega

/-- A WRITE's next bit (41_bit_io.md R164). -/
theorem State.advW_eventsLeft_lt (hw : s.status.waiter = true) (hop : s.status.op = .write)
    (hf : s.status.finalTimeslot = false) (h0 : s.status.bytes ≠ 0) {low : LowPulse}
    (h : (s.latchSlot.setNextLow low).advW = some t) : t.eventsLeft < s.eventsLeft := by
  have moved (hc : t.course = s.course) (hft : t.status.finalTimeslot = false)
      (hbits : 8 * t.status.bytes.toNat - t.status.bit.toNat < 8 * s.status.bytes.toNat - s.status.bit.toNat) :
      t.eventsLeft < s.eventsLeft := by
    refine State.eventsLeft_lt_of_course hw hc ?_
    rw [State.opEventsLeft_write hop, State.opEventsLeft_write ((congrArg Course.op hc).trans hop), hf, hft]
    omega
  have hsome : (s.status.bytes - 1).toNat + 1 = s.status.bytes.toNat := by bv_omega
  rcases State.advW_cases (s.latchSlot.setNextLow low) with
      ⟨h7, ha⟩ | ⟨h7, h1, ha⟩ | ⟨h7, -, b, -, ha⟩ | ⟨-, -, -, ha⟩ <;>
    rw [ha] at h <;> cases h <;> refine moved rfl hf ?_
  · replace h7 : s.status.bit ≠ 7 := h7
    have hnext : (s.status.bit + 1).toNat = s.status.bit.toNat + 1 := by bv_omega
    show 8 * s.status.bytes.toNat - (s.status.bit + 1).toNat < _
    omega
  · replace h7 : s.status.bit = 7 := h7
    replace h1 : s.status.bytes = 1 := h1
    rw [h7, h1]
    show 8 * 0 - 0 < 8 * 1 - 7
    decide
  · replace h7 : s.status.bit = 7 := h7
    rw [h7]
    show 8 * (s.status.bytes - 1).toNat - 0 < 8 * s.status.bytes.toNat - 7
    omega

/-! ### The responses to MASTER -/

section
variable (hs : s.Inv) (hw : s.status.waiter = true) (hm : s.MasterReady)
include hs hw hm

theorem State.Inv.masterReset_eventsLeft_lt (hop : s.status.op = .reset) (h : s.latchSlot.masterReset = some t) :
    t.eventsLeft < s.eventsLeft := by
  obtain ⟨⟨hv, -⟩, -, -⟩ := hm
  cases hf : s.status.finalTimeslot with
  | true =>
    rw [State.masterReset_final (by exact hf)] at h
    exact hs.complete_eventsLeft_lt hv hw (by simp [hop]) hf h
  | false =>
    obtain ⟨-, -, hseq⟩ := (State.sequenceOk_reset hop).1 (hs.sequence hv)
    rw [State.masterReset_pulse (by exact hf)] at h
    cases h
    refine State.eventsLeft_lt_of_course hw rfl ?_
    rw [State.opEventsLeft_reset hop, State.sampledLeft_slot hf, State.openSlots_closed (hseq hf).2,
      State.opEventsLeft_reset (by exact hop), State.sampledLeft_final rfl, State.openSlots_open rfl]
    decide

theorem State.Inv.masterRead_eventsLeft_lt (hop : s.status.op = .read) (h : s.latchSlot.masterRead = some t) :
    t.eventsLeft < s.eventsLeft := by
  obtain ⟨⟨hv, -⟩, -, hdue⟩ := hm
  cases hf : s.status.finalTimeslot with
  | true =>
    rw [State.masterRead_final (by exact hf)] at h
    exact hs.complete_eventsLeft_lt hv hw (by simp [hop]) hf h
  | false =>
    obtain ⟨-, -, hseq⟩ := (State.sequenceOk_read hop).1 (hs.sequence hv)
    have hclosed : s.pg.slotOpen = false := hdue.resolve_right (by simp [hseq hf])
    have hleft := State.opEventsLeft_read hop
    rw [State.sampledLeft_slot hf, State.openSlots_closed hclosed] at hleft
    by_cases hlast : s.status.bytes = 1 ∧ s.status.bit = 7
    · rw [State.masterRead_last (by exact hf) (by exact hlast.1) (by exact hlast.2)] at h
      cases h
      refine State.eventsLeft_lt_of_course hw rfl ?_
      rw [State.opEventsLeft_read (by exact hop), State.sampledLeft_final rfl, State.openSlots_open rfl, hleft]
      simp [hlast]
    · rw [State.masterRead_bit (by exact hf) (by exact not_and_or.1 hlast)] at h
      cases h
      refine State.eventsLeft_lt_of_course hw rfl ?_
      rw [State.opEventsLeft_read (by exact hop), State.sampledLeft_slot (by exact hf), State.openSlots_open rfl, hleft]
      exact Nat.lt_succ_self _

theorem State.Inv.masterWrite_eventsLeft_lt (hop : s.status.op = .write) (h : s.latchSlot.masterWrite = some t) :
    t.eventsLeft < s.eventsLeft := by
  obtain ⟨⟨hv, -⟩, -, -⟩ := hm
  cases hf : s.status.finalTimeslot with
  | true =>
    rw [State.masterWrite_final (by exact hf)] at h
    cases hn : s.status.needPullup with
    | true =>
      obtain ⟨-, ⟨-, -, hneed, -⟩, -, -⟩ := hs.control hv
      rw [State.finishWrite_pullup (by exact hn)] at h
      cases h
      exact State.startPullup_eventsLeft_lt hw hop hf (hneed hn).2 hn
    | false =>
      rw [State.finishWrite_complete (by exact hn)] at h
      exact hs.complete_eventsLeft_lt hv hw (by simp [hop]) hf h
  | false =>
    by_cases h0 : s.status.bytes = 0
    · rw [State.masterWrite_last (by exact hf) (by exact h0)] at h
      cases h
      refine State.eventsLeft_lt_of_course hw rfl ?_
      rw [State.opEventsLeft_write (by exact hop), State.opEventsLeft_write hop, hf]
      exact Nat.lt_succ_self _
    · rw [State.masterWrite_bit (by exact hf) (by exact h0)] at h
      exact State.advW_eventsLeft_lt hw hop hf h0 h

theorem State.Inv.masterTriplet_eventsLeft_lt (hop : s.status.op = .triplet) (h : s.latchSlot.masterTriplet = some t) :
    t.eventsLeft < s.eventsLeft := by
  obtain ⟨⟨hv, -⟩, -, hdue⟩ := hm
  cases hf : s.status.finalTimeslot with
  | true =>
    rw [State.masterTriplet_final (by exact hf)] at h
    exact hs.complete_eventsLeft_lt hv hw (by simp [hop]) hf h
  | false =>
    obtain ⟨-, -, hseq⟩ := (State.sequenceOk_triplet hop).1 (hs.sequence hv)
    have hclosed : s.pg.slotOpen = false := hdue.resolve_right (by simp [hseq hf])
    have hleft := State.opEventsLeft_triplet hop
    rw [State.sampledLeft_slot hf, State.openSlots_closed hclosed] at hleft
    rcases State.masterTriplet_cases (s := s.latchSlot) hf with ⟨hb, hr, ht⟩ | ⟨k, ht⟩ <;> rw [ht] at h <;> cases h <;>
      refine State.eventsLeft_lt_of_course hw rfl ?_ <;> rw [State.opEventsLeft_triplet (by exact hop), hleft]
    · rw [State.sampledLeft_final rfl, State.openSlots_open rfl]
      rw [show s.search.bitStep = .slotW from hb]
      simp only [BitStep.slotsLeft]
      omega
    · rw [State.sampledLeft_slot (by exact hf), State.openSlots_open rfl]
      exact Nat.lt_succ_self _

end

/-! ### The responses to SAMPLE -/

section
variable (hs : s.Inv) (hw : s.status.waiter = true) (hm : s.SampleReady)
include hs hw hm

theorem State.Inv.sampleReset_eventsLeft_lt (hop : s.status.op = .reset) (pin : Bool) :
    (s.closeSlot.sampleReset pin).eventsLeft < s.eventsLeft := by
  obtain ⟨⟨hv, -⟩, -, -, hopen⟩ := hm
  obtain ⟨-, -, hseq⟩ := (State.sequenceOk_reset hop).1 (hs.sequence hv)
  have hf : s.status.finalTimeslot = true := by
    by_contra hf
    simp [(hseq (by simpa using hf)).2] at hopen
  refine State.eventsLeft_lt_of_course hw rfl ?_
  rw [State.opEventsLeft_reset hop, State.sampledLeft_final hf, State.openSlots_open hopen,
    State.opEventsLeft_reset (by exact hop), State.sampledLeft_final (by exact hf), State.openSlots_closed rfl]
  decide

theorem State.Inv.sampleRead_eventsLeft_lt (hop : s.status.op = .read) {pin : Bool}
    (h : s.closeSlot.sampleRead pin = some t) : t.eventsLeft < s.eventsLeft := by
  obtain ⟨⟨hv, -⟩, -, hen, hopen⟩ := hm
  obtain ⟨-, hfinal, hseq⟩ := (State.sequenceOk_read hop).1 (hs.sequence hv)
  have hleft := State.opEventsLeft_read hop
  by_cases h7 : s.status.bit = 7
  · obtain ⟨-, rfl⟩ := (State.sampleRead_byte_eq_some (s := s.closeSlot) h7).1 h
    refine State.eventsLeft_lt_of_course hw rfl ?_
    rw [State.opEventsLeft_read (by exact hop), hleft]
    cases hf : s.status.finalTimeslot with
    | true =>
      rw [State.sampledLeft_final hf, State.sampledLeft_final (by exact hf), State.openSlots_open hopen,
        State.openSlots_closed rfl]
      decide
    | false =>
      have hsome : (s.status.bytes - 1).toNat + 1 = s.status.bytes.toNat := by
        have := (hseq hf).2.1
        bv_omega
      rw [State.sampledLeft_slot hf, State.sampledLeft_slot (by exact hf), State.openSlots_open hopen,
        State.openSlots_closed rfl, h7]
      show 2 * (8 * (s.status.bytes - 1).toNat - 0) + 1 - 0 < 2 * (8 * s.status.bytes.toNat - 7) + 1 - 1
      omega
  · have hf : s.status.finalTimeslot = false := by
      by_contra hf
      exact h7 ((hfinal (by simpa using hf)).2.1 hen).2
    have hnext : (s.status.bit + 1).toNat = s.status.bit.toNat + 1 ∧ s.status.bit.toNat < 8 ∧
        0 < s.status.bytes.toNat := by
      have := (hseq hf).2.1
      bv_omega
    rw [State.sampleRead_bit (by exact h7)] at h
    cases h
    refine State.eventsLeft_lt_of_course hw rfl ?_
    rw [State.opEventsLeft_read (by exact hop), hleft, State.sampledLeft_slot hf, State.sampledLeft_slot (by exact hf),
      State.openSlots_open hopen, State.openSlots_closed rfl]
    simp only [State.closeSlot_status, hnext]
    omega

theorem State.Inv.sampleTriplet_eventsLeft_lt (hop : s.status.op = .triplet) (pin : Bool) :
    (s.closeSlot.sampleTriplet pin).eventsLeft < s.eventsLeft := by
  obtain ⟨⟨hv, -⟩, -, hen, hopen⟩ := hm
  obtain ⟨-, hfinal, hseq⟩ := (State.sequenceOk_triplet hop).1 (hs.sequence hv)
  have hleft := State.opEventsLeft_triplet hop
  have hnot : s.search.bitStep ≠ .slotW → s.status.finalTimeslot = false := by
    intro hb
    by_contra hf
    simp [((hfinal (by simpa using hf)).2.2 hb).2] at hen
  unfold State.sampleTriplet
  cases hb : s.closeSlot.search.bitStep <;> replace hb : s.search.bitStep = _ := hb <;> rw [hb] at hleft
  case slotA =>
    have hf := hnot (by simp [hb])
    refine State.eventsLeft_lt_of_course hw rfl ?_
    rw [State.opEventsLeft_triplet (by exact hop), hleft, State.sampledLeft_slot hf,
      State.sampledLeft_slot (by exact hf), State.openSlots_open hopen, State.openSlots_closed rfl]
    simp [State.sampleSlotA, BitStep.slotsLeft]
  case slotB =>
    have hf := hnot (by simp [hb])
    rw [State.sampledLeft_slot hf, State.openSlots_open hopen] at hleft
    obtain ⟨bits, ht | ⟨v, single, branch, ht⟩⟩ := s.closeSlot.sampleSlotB_cases pin <;> simp only [ht] <;>
      refine State.eventsLeft_lt_of_course hw rfl ?_ <;> rw [State.opEventsLeft_triplet (by exact hop), hleft]
    · rw [State.sampledLeft_final rfl, State.openSlots_closed rfl]
      simp [BitStep.slotsLeft]
    · rw [State.sampledLeft_slot (by exact hf), State.openSlots_closed rfl]
      simp [State.storeAndWrite, BitStep.slotsLeft]
  case slotW =>
    simp only [State.sampleSlotW]
    split_ifs with hf <;> simp only [State.closeSlot_status] at hf <;>
      refine State.eventsLeft_lt_of_course hw rfl ?_ <;> rw [State.opEventsLeft_triplet (by exact hop), hleft]
    · rw [State.sampledLeft_final hf, State.sampledLeft_final (by exact hf), State.openSlots_open hopen,
        State.openSlots_closed rfl]
      decide
    · replace hf : s.status.finalTimeslot = false := by simpa using hf
      have hnext : (s.search.rombit + 1).toNat = s.search.rombit.toNat + 1 ∧ s.search.rombit.toNat < 63 := by
        have := (hseq hf).2 hopen hb
        bv_omega
      rw [State.sampledLeft_slot hf, State.sampledLeft_slot (by exact hf), State.openSlots_open hopen,
        State.openSlots_closed rfl]
      simp only [State.closeSlot_search, BitStep.slotsLeft, hnext]
      omega

end

/-! ### Every event -/

/-- While PG runs, its events are those of an operation in its slots (10_state.md R58 point 2). -/
theorem State.Inv.op_running (hs : s.Inv) (hv : s.fault.valid = false) (hrun : s.pgctl.run = true) :
    s.status.op ≠ .none ∧ s.status.op ≠ .pullup := by
  obtain ⟨⟨-, hr, -⟩, -⟩ := hs.control hv
  exact hr.1 hrun

section
variable (hs : s.Inv) (hw : s.status.waiter = true)
include hs hw

theorem State.AnswersMaster.eventsLeft_lt {r : Option State} (hm : s.MasterReady) (h : s.latchSlot.AnswersMaster r)
    (hr : r = some t) : t.eventsLeft < s.eventsLeft := by
  cases h with
  | reset hop => exact hs.masterReset_eventsLeft_lt hw hm hop hr
  | read hop => exact hs.masterRead_eventsLeft_lt hw hm hop hr
  | write hop => exact hs.masterWrite_eventsLeft_lt hw hm hop hr
  | triplet hop => exact hs.masterTriplet_eventsLeft_lt hw hm hop hr

theorem State.AnswersSample.eventsLeft_lt {pin : Bool} {r : Option State} (hm : s.SampleReady)
    (h : s.closeSlot.AnswersSample pin r) (hr : r = some t) : t.eventsLeft < s.eventsLeft := by
  cases h with
  | reset hop => cases hr; exact hs.sampleReset_eventsLeft_lt hw hm hop pin
  | read hop => exact hs.sampleRead_eventsLeft_lt hw hm hop hr
  | triplet hop => cases hr; exact hs.sampleTriplet_eventsLeft_lt hw hm hop pin

variable (hb : s.BufferOk)
include hb

theorem exec_master_eventsLeft_lt (hm : s.MasterReady) :
    ∃ t, exec (.master false) s = .next t ∧ t.fault.valid = false ∧ t.eventsLeft < s.eventsLeft := by
  obtain ⟨ha, hrun, -⟩ := id hm
  obtain ⟨r, hr, he⟩ := exec_master_answers hm (hs.op_running ha.1 hrun)
  obtain ⟨t, rfl, -⟩ := hr.keepsBuffer hs hb ha
  obtain ⟨d, w, hframe⟩ := (hr.leaves rfl).frame_eq
  have hfault : t.fault = s.fault := congrArg Frame.fault hframe
  exact ⟨t, he, hfault ▸ ha.1, hr.eventsLeft_lt hs hw hm rfl⟩

theorem exec_sample_eventsLeft_lt (hm : s.SampleReady) (pin : Bool) :
    ∃ t, exec (.sample pin) s = .next t ∧ t.fault.valid = false ∧ t.eventsLeft < s.eventsLeft := by
  obtain ⟨ha, hrun, hen, -⟩ := id hm
  obtain ⟨hnone, hpullup⟩ := hs.op_running ha.1 hrun
  have hwrite : s.status.op ≠ .write := fun hop => by
    simp [((State.sequenceOk_write hop).1 (hs.sequence ha.1)).2.1] at hen
  obtain ⟨r, hr, he⟩ := exec_sample_answers pin hm ⟨hnone, hpullup, hwrite⟩
  obtain ⟨t, rfl, -⟩ := hr.keepsBuffer hs hb hm
  have hfault : t.fault = s.fault := congrArg Frame.fault (hr.frame_eq rfl)
  exact ⟨t, he, hfault ▸ ha.1, hr.eventsLeft_lt hs hw hm rfl⟩

/-! ### Every step -/

/-- While a host is blocked, PG or PUT has a move: an operation is in flight. -/
theorem State.Inv.environmentMoves_of_waiting (hv : s.fault.valid = false) : s.environmentMoves = true := by
  obtain ⟨⟨hwait, hrun, -, -, hput⟩, -, ⟨-, hreset, hcmd, htriplet, -⟩, -⟩ := hs.control hv
  have hop : s.status.op ≠ .none := by
    cases hp : s.search.phase with
    | idle => simpa [hp] using hwait.1 hw
    | reset => simp [hreset hp]
    | cmd => simp [(hcmd hp).1]
    | triplet => simp [htriplet hp]
  refine State.environmentMoves_of_answers ⟨hv, hb.bsm⟩ ?_
  by_cases hpullup : s.status.op = .pullup
  · exact .inr (hput.2 hpullup)
  · exact .inl (hrun.2 ⟨hop, hpullup⟩)

/-- What PG or PUT does then is an instruction, in a state with at most one pin more drawn, and takes an event off. -/
theorem environment_eventsLeft_lt (hv : s.fault.valid = false) :
    ∃ i n t, s.environment = .next t ∧ exec i { s with draws := n } = .next t ∧ t.fault.valid = false ∧
      t.eventsLeft < s.eventsLeft := by
  have hmoves := hs.environmentMoves_of_waiting hw hb hv
  rcases s.environment_cases with ⟨hno, -⟩ | ⟨-, ⟨hm, he⟩ | ⟨hm, he⟩ | ⟨ha, -, hsome, he⟩⟩
  · simp [hmoves] at hno
  · obtain ⟨t, ht, hrest⟩ := exec_sample_eventsLeft_lt (s := { s with draws := s.draws + 1 }) hs hw hb hm
      (Config.pinDraw s.draws)
    exact ⟨_, _, t, he.trans ht, ht, hrest⟩
  · obtain ⟨t, ht, hrest⟩ := exec_master_eventsLeft_lt hs hw hb hm
    exact ⟨_, s.draws, t, he.trans ht, ht, hrest⟩
  · obtain ⟨⟨-, -, -, -, hput⟩, -⟩ := hs.control hv
    have hop := hput.1 hsome
    have ht := exec_pullupEnd_of_pullup ha hop
    refine ⟨_, s.draws, _, he.trans ht, ht, hv, ?_⟩
    rw [State.eventsLeft_of_resumed (by rfl), State.eventsLeft_of_waiting hw, State.opEventsLeft_pullup hop]
    omega

end

/-- The blocked host's next action goes on waiting: no instruction changes it, nor which hosts are done. -/
theorem exec_nothingArrives {i : Instr} (h : exec i s = .next t) (hn : s.NothingArrives) (hw : t.status.waiter = true) :
    t.NothingArrives := by
  obtain ⟨-, -, -, -, -, hinputs, -, -, hcaller, hhalts, hhosts, -⟩ := instructionsKeepOperandsAndConfiguration i s t h
  simp only [State.NothingArrives, State.isDone, State.isStuck, State.hasHalted, hinputs, hcaller, hhalts, hhosts, hw]
  exact hn.imp_right fun ⟨act, rest, hi, _, hd⟩ => ⟨act, rest, hi, trivial, hd⟩

/-- By induction on the events that are still to come, the host is resumed within them. -/
theorem runSteps_resumes {n : Nat} (hle : s.eventsLeft ≤ n) (hs : s.Inv) (hb : s.BufferOk) (hv : s.fault.valid = false)
    (hw : s.status.waiter = true) (hn : s.NothingArrives) :
    ∃ k t, k ≤ n ∧ runSteps k s = .next t ∧ t.status.waiter = false ∧ t.fault.valid = false := by
  induction n generalizing s with
  | zero =>
    obtain ⟨i, m, t, -, -, -, hless⟩ := environment_eventsLeft_lt hs hw hb hv
    omega
  | succ n ih =>
    obtain ⟨i, m, t, he, hexec, hf, hless⟩ := environment_eventsLeft_lt hs hw hb hv
    obtain ⟨harrival, hstep⟩ := step_of_nothingArrives s hn (hs.environmentMoves_of_waiting hw hb hv)
    have ht : step s = .next t := hstep.trans he
    cases hwt : t.status.waiter with
    | false => exact ⟨1, t, by omega, by simp [runSteps, ht], hwt, hf⟩
    | true =>
      have hmap : s.mapChanges = false := by simp [State.mapChanges, harrival]
      obtain ⟨k, u, hk, hu, hrest⟩ := ih (by omega) (stepKeepsTheInvariant s t hs ht) (step_bufferOk hs hb hmap ht) hf
        hwt (exec_nothingArrives hexec hn hwt)
      exact ⟨k + 1, u, by omega, by simpa [runSteps, ht] using hu, hrest⟩

end

/-- Settles O56: the events still to come are within the bound, and every step takes one. -/
theorem blockedHostIsAlwaysResumed : Obligations.BlockedHostIsAlwaysResumed :=
  fun _ hs hb hv hw hn => runSteps_resumes (hs.eventsLeft_le_eventBound hv hw) hs hb hv hw hn

end Sys2Proof.Machine
end

section
/-! PROOF. O57: runs of instructions, and an operation that starts in Ready0, from its acceptance to its completion
(70_reset_and_hazards.md R306; 41_bit_io.md R160). -/

namespace Sys2Proof.Machine

section
variable {s t u v : State} {k : BsmOp}

/-! ### Runs -/

theorem execAll_of_next {i : Instr} {rest : List Instr} (h : exec i s = .next t) :
    execAll (i :: rest) s = execAll rest t := by
  rw [execAll, h]

theorem execAll_append_of_next {l rest : List Instr} (h : execAll l s = .next t) :
    execAll (l ++ rest) s = execAll rest t := by
  induction l generalizing s with
  | nil => cases h; rfl
  | cons i l ih =>
    rw [List.cons_append, execAll]
    rw [execAll] at h
    cases hi : exec i s with
    | next u => exact ih (by simpa [hi] using h)
    | fault r => simp [hi] at h
    | refused r => simp [hi] at h

/-! ### An operation that a host issued in Ready0 -/

/-- `u` is a state within operation `k`, which a host issued in `s`: that host waits, PG runs, and neither a SEARCH nor
the strong pull-up is in flight. -/
structure State.Running (s : State) (k : BsmOp) (u : State) : Prop where
  ready0 : s.Ready0
  frame : u.frame = { s.frame with waiter := true }
  op : u.status.op = k
  phase : u.search.phase = .idle
  run : u.pgctl.run = true
  puAsserted : u.pgctl.puAsserted = false
  put : u.put = none

theorem State.Ready0.issueReady (h : s.Ready0) : s.IssueReady := by
  obtain ⟨-, -, hw, -, -, -, -, -, hv, -⟩ := h
  exact ⟨hv, hw⟩

/-- An operation is armed for the host that issued it (41_bit_io.md R156). -/
theorem State.Ready0.arm_running (h : s.Ready0) (hframe : u.frame = { s.frame with waiter := true })
    (hphase : u.search.phase = s.search.phase) (hpu : u.pgctl.puAsserted = s.pgctl.puAsserted) (hput : u.put = s.put)
    (k : BsmOp) (p ss se : Bool) (low : LowPulse) : s.Running k (u.arm k p ss se low) := by
  obtain ⟨-, -, -, hp, -, -, -, hpa, -, -, -, hputs, -⟩ := id h
  exact {
    ready0 := h, frame := hframe, op := rfl, phase := hphase.trans hp, run := rfl, puAsserted := hpu.trans hpa
    put := hput.trans hputs }

theorem State.Running.of_course (h : s.Running k u) (hc : v.course = u.course) : s.Running k v where
  ready0 := h.ready0
  frame := (congrArg Course.frame hc).trans h.frame
  op := (congrArg Course.op hc).trans h.op
  phase := (congrArg Course.phase hc).trans h.phase
  run := (congrArg Course.run hc).trans h.run
  puAsserted := (congrArg Course.puAsserted hc).trans h.puAsserted
  put := (congrArg Course.put hc).trans h.put

theorem State.Running.latchSlot (h : s.Running k u) : s.Running k u.latchSlot := h.of_course rfl

theorem State.Running.answers (h : s.Running k u) : u.Answers := by
  obtain ⟨-, -, -, -, -, -, -, -, hv, -, -, -, hb⟩ := h.ready0
  exact ⟨(congrArg (·.fault.valid) h.frame).trans hv, (congrArg (·.stuck.bsm) h.frame).trans hb⟩

theorem State.Running.masterReady (h : s.Running k u) (hslot : u.pg.slotOpen = false ∨ u.pgctl.sampleEn = false) :
    u.MasterReady :=
  ⟨h.answers, h.run, hslot⟩

theorem State.Running.sampleReady (h : s.Running k u) (hen : u.pgctl.sampleEn = true) (hopen : u.pg.slotOpen = true) :
    u.SampleReady :=
  ⟨h.answers, h.run, hen, hopen⟩

theorem State.Running.complete (h : s.Running k u) (r : Word) : u.complete r = some (u.endOp.resume r) :=
  State.complete_of_idle h.phase r

/-- Once the host is resumed the machine is in Ready0 again (41_bit_io.md R157). -/
theorem State.Running.resume_ready0 (h : s.Running k u) (r : Word) : (u.endOp.resume r).Ready0 := by
  obtain ⟨hst, -, -, -, -, -, -, -, hv, hbound, hconfig, -, hb⟩ := h.ready0
  have hf := h.frame
  simp only [State.frame, Frame.mk.injEq] at hf
  obtain ⟨hparams, -, -, -, -, hstuck, -, -, -, -, -, hfault, hcfg, hdriver, -⟩ := hf
  refine ⟨hdriver.trans hst, rfl, rfl, h.phase, rfl, rfl, rfl, h.puAsserted, ?_, ?_, ?_, h.put, ?_⟩
  · exact hfault ▸ hv
  · exact (congrArg (·.getLsbD 12) hcfg).trans hbound
  · show State.configValid (u.endOp.resume r) ((u.config.extractLsb' 0 12).setWidth 32) = true
    simpa only [State.configValid, hcfg, State.resume_params, State.endOp, State.stopPg_params, hparams] using hconfig
  · exact hstuck ▸ hb

/-! ### RESET -/

/-- Settles O57: the pulse slot, the presence sample, and the final timeslot, whose MASTER returns what was sampled. -/
theorem resetReportsPresence : Obligations.ResetReportsPresence := by
  intro s pin h
  have harmed : s.Running .reset s.block.armReset :=
    h.arm_running (u := { s.block with status := { s.block.status with slavePresent := false } })
      rfl rfl rfl rfl _ _ _ _ _
  have hpulse : s.Running .reset s.block.armReset.latchSlot.enterFinal := harmed.of_course rfl
  have hsampled : s.Running .reset (s.block.armReset.latchSlot.enterFinal.closeSlot.sampleReset pin) :=
    hpulse.of_course rfl
  have hend := hsampled.latchSlot
  have haccept := exec_reset_accepts h.issueReady h.1
  have hmaster := exec_master_reset (harmed.masterReady (.inl rfl)) harmed.op
  have hsample := exec_sample_reset pin (hpulse.sampleReady rfl rfl) hpulse.op
  have hfinal := exec_master_reset (hsampled.masterReady (.inl rfl)) hsampled.op
  rw [State.masterReset_pulse rfl, State.respond_some] at hmaster
  rw [State.masterReset_final rfl, hend.complete, State.respond_some] at hfinal
  refine ⟨_, ?_, hend.resume_ready0 (flagWord (presenceOf pin)), ?_, rfl, rfl⟩
  · rw [execAll_of_next haccept, execAll_of_next hmaster, execAll_of_next hsample, execAll_of_next hfinal]
    rfl
  · cases pin <;> rfl

end

end Sys2Proof.Machine
end

section
/-! PROOF. O58: a READ, byte by byte (41_bit_io.md R161 to R163; 20_memory.md R81). Its run leaves host memory as
`State.writeBytes` of the bytes that were sampled. -/

namespace Sys2Proof.Machine

section
variable {s t u v : State}

/-! ### A byte string written, as host memory after it -/

/-- What a byte string leaves in memory depends on memory, the memory map and ADDR_W only. -/
theorem State.writeBytes_mem_congr {bs : List Byte} {a : Nat} (hp : t.params = s.params) (hmap : t.memMap = s.memMap)
    (hm : t.mem = s.mem) : (t.writeBytes a bs).map State.mem = (s.writeBytes a bs).map State.mem := by
  induction bs generalizing s t a with
  | nil => exact congrArg some hm
  | cons b bs ih =>
    have hadm : t.byteAdmitted a = s.byteAdmitted a := by simp only [State.byteAdmitted, hp, hmap]
    simp only [State.writeBytes, State.memWrite, hadm]
    split_ifs
    · have haddr : State.addrAdd { t with mem := t.mem.write a b } a 1 =
          State.addrAdd { s with mem := s.mem.write a b } a 1 := congrArg (fun p => (a + 1) % 2 ^ p.addrW) hp
      simp only [haddr]
      exact ih hp hmap (congrArg (·.write a b) hm)
    · rfl

/-- The first byte of a string that is written is admitted, and the rest is written after it. -/
theorem State.writeBytes_cons_mem {b : Byte} {bs : List Byte} {a : Nat} {m : Memory}
    (h : (s.writeBytes a (b :: bs)).map State.mem = some m) :
    s.byteAdmitted a = true ∧
      (State.writeBytes { s with mem := s.mem.write a b } (s.addrAdd a 1) bs).map State.mem = some m := by
  rw [State.writeBytes] at h
  cases hw : s.memWrite a b with
  | none => simp [hw] at h
  | some u =>
    obtain ⟨hadm, rfl⟩ := (State.memWrite_eq_some s u a b).1 hw
    rw [hw] at h
    exact ⟨hadm, h⟩

/-- The cursor holds every address: ADDR_W is at most 32 (log 8). -/
theorem State.nextCursor_toNat (hok : s.params.ok = true) : s.nextCursor.toNat = s.addrAdd s.cursor.toNat 1 := by
  obtain ⟨-, -, -, -, -, -, haddr, -⟩ := Params.ok_iff.1 hok
  have hspace : 2 ^ s.params.addrW ≤ 2 ^ 32 := Nat.pow_le_pow_right (by omega) haddr
  rw [State.nextCursor, BitVec.toNat_ofNat, Nat.mod_eq_of_lt]
  exact lt_of_lt_of_le (Nat.mod_lt _ (Nat.two_pow_pos _)) hspace

/-! ### The slots of a READ -/

/-- The events of a READ's slots that sample `pins`: MASTER and SAMPLE for each. -/
def readSlots (pins : List Bool) : List Instr := pins.flatMap fun pin => [.master false, .sample pin]

theorem readSlots_append (as bs : List Bool) : readSlots (as ++ bs) = readSlots as ++ readSlots bs :=
  List.flatMap_append

theorem readEvents_eq (bytes : List Byte) :
    readEvents bytes = readSlots (bytes.flatMap byteBits) ++ [.master false] := rfl

/-- `u` is a state of a READ that a host issued in `s`, at the start of a byte, with `n` bytes still to come. -/
structure State.Reading (s : State) (n : Nat) (u : State) : Prop where
  running : s.Running .read u
  bytes : u.status.bytes.toNat = n
  bit : u.status.bit = 0
  acc : u.acc = 0
  final : u.status.finalTimeslot = decide (n = 0)
  sampleEn : u.pgctl.sampleEn = decide (n ≠ 0)
  closed : u.pg.slotOpen = false

/-- The low `k` bits of a byte. -/
def lowBits (b : Byte) (k : Nat) : Byte := (b.setWidth k).setWidth 8

theorem lowBits_getLsbD (b : Byte) (k j : Nat) : (lowBits b k).getLsbD j = (decide (j < k) && b.getLsbD j) := by
  simp only [lowBits, BitVec.getLsbD_setWidth]
  by_cases hj : j < 8
  · simp [hj]
  · simp [hj, BitVec.getLsbD_of_ge b j (by omega)]

theorem lowBits_zero (b : Byte) : lowBits b 0 = 0 := by
  refine BitVec.eq_of_getLsbD_eq fun j _ => ?_
  simp [lowBits_getLsbD]

theorem lowBits_all (b : Byte) : lowBits b 8 = b := by
  simp [lowBits]

/-- One more bit, at its place (41_bit_io.md R162). -/
theorem putBit_lowBits (b : Byte) (k : Nat) : putBit (lowBits b k) k (b.getLsbD k) = lowBits b (k + 1) := by
  refine BitVec.eq_of_getLsbD_eq fun j hj => ?_
  rw [putBit_getLsbD _ _ _ _ hj, lowBits_getLsbD, lowBits_getLsbD]
  by_cases hjk : j = k
  · simp [hjk]
  · simp [hjk, Nat.le_iff_lt_or_eq]

/-- `u` after the first `k` bits of byte `b`, with PG in state `g`. -/
def State.afterBits (u : State) (b : Byte) (k : Nat) (g : PulseGen) : State :=
  { u with acc := lowBits b k, status := { u.status with bit := BitVec.ofNat 3 k }, pg := g }

theorem State.afterBits_accWith {b : Byte} {k : Nat} {g : PulseGen} (hk : k < 8) :
    (u.afterBits b k g).accWith (b.getLsbD k) = lowBits b (k + 1) := by
  have hbit : (BitVec.ofNat 3 k).toNat = k := Nat.mod_eq_of_lt hk
  show putBit (lowBits b k) (BitVec.ofNat 3 k).toNat (b.getLsbD k) = _
  rw [hbit, putBit_lowBits]

/-- A slot's two events. -/
theorem readSlots_singleton {pin : Bool} {w : State} (h1 : exec (.master false) u = .next v)
    (h2 : exec (.sample pin) v = .next w) : execAll (readSlots [pin]) u = .next w :=
  (execAll_of_next h1).trans (execAll_of_next h2)

section
variable {n : Nat} (h : s.Reading (n + 1) u) {b : Byte} {k : Nat} {g : PulseGen} (hg : g.slotOpen = false)
include h hg

/-- A slot that samples a bit within its byte. -/
theorem State.Reading.slot (hk : k < 7) :
    ∃ g', g'.slotOpen = false ∧
      execAll (readSlots [b.getLsbD k]) (u.afterBits b k g) = .next (u.afterBits b (k + 1) g') := by
  have hrun : s.Running .read (u.afterBits b k g) := h.running.of_course rfl
  have hfinal : (u.afterBits b k g).status.finalTimeslot = false := h.final
  have hen : (u.afterBits b k g).pgctl.sampleEn = true := h.sampleEn
  have hbit : (u.afterBits b k g).status.bit ≠ 7 := by
    show BitVec.ofNat 3 k ≠ 7
    bv_omega
  have hmaster := exec_master_read (hrun.masterReady (.inl hg)) hrun.op
  have hsample := exec_sample_read (b.getLsbD k) (hrun.latchSlot.sampleReady hen rfl) hrun.latchSlot.op
  rw [State.masterRead_bit (by exact hfinal) (.inr (by exact hbit)), State.respond_some] at hmaster
  rw [State.sampleRead_bit (by exact hbit), State.respond_some] at hsample
  refine ⟨(u.afterBits b k g).latchSlot.closeSlot.pg, rfl, (readSlots_singleton hmaster hsample).trans ?_⟩
  have hacc := u.afterBits_accWith (b := b) (k := k) (g := g) (by omega)
  have hnext : BitVec.ofNat 3 k + 1 = BitVec.ofNat 3 (k + 1) := (BitVec.ofNat_add k 1).symm
  show _ = Host.Outcome.next { u with
    acc := lowBits b (k + 1), status := { u.status with bit := BitVec.ofNat 3 (k + 1) }, pg := _ }
  rw [← hacc, ← hnext]
  rfl

/-- `u`, whose byte `b` has its last bit still to come, after the MASTER of that bit, which programs `low`. -/
def State.atLastBit (u : State) (b : Byte) (g : PulseGen) (low : LowPulse) (final : Bool) : State :=
  { (u.afterBits b 7 g).latchSlot with
    pgctl := { u.pgctl with nextLow := low }
    status := { (u.afterBits b 7 g).status with finalTimeslot := final } }

/-- The MASTER of a byte's last bit begins the final timeslot where no byte comes after it (41_bit_io.md R161). -/
theorem State.Reading.lastMaster :
    ∃ low, exec (.master false) (u.afterBits b 7 g) = .next (u.atLastBit b g low (decide (n = 0))) := by
  have hrun : s.Running .read (u.afterBits b 7 g) := h.running.of_course rfl
  have hfinal : (u.afterBits b 7 g).status.finalTimeslot = false := h.final
  have hbytes := h.bytes
  rw [exec_master_read (hrun.masterReady (.inl hg)) hrun.op]
  by_cases hn : n = 0
  · have h1 : u.status.bytes = 1 := by bv_omega
    rw [State.masterRead_last (by exact hfinal) (by exact h1) rfl, decide_eq_true hn]
    exact ⟨.none, rfl⟩
  · have h1 : u.status.bytes ≠ 1 := by bv_omega
    rw [State.masterRead_bit (by exact hfinal) (.inl (by exact h1)), decide_eq_false hn]
    exact ⟨u.pgctl.nextLow, by rw [← hfinal]; rfl⟩

/-- The slot that samples the last bit of its byte. -/
theorem State.Reading.lastSlot (hadm : u.byteAdmitted u.cursor.toNat = true) :
    ∃ v, execAll (readSlots [b.getLsbD 7]) (u.afterBits b 7 g) = .next v ∧ s.Reading n v ∧
      v.mem = u.mem.write u.cursor.toNat b ∧ v.cursor = u.nextCursor := by
  obtain ⟨low, hmaster⟩ := h.lastMaster (b := b) hg
  have hrun : s.Running .read (u.atLastBit b g low (decide (n = 0))) := h.running.of_course rfl
  have hen : u.pgctl.sampleEn = true := h.sampleEn
  have hbytes := h.bytes
  have hless : (u.status.bytes - 1).toNat = n := by bv_omega
  have hsample := exec_sample_read (b.getLsbD 7) (hrun.sampleReady hen rfl) hrun.op
  rw [(State.sampleRead_byte_eq_some (s := (u.atLastBit b g low _).closeSlot) rfl).2 ⟨hadm, rfl⟩,
    State.respond_some] at hsample
  have hacc : (u.afterBits b 7 g).accWith (b.getLsbD 7) = b := (u.afterBits_accWith (by decide)).trans (lowBits_all b)
  refine ⟨_, readSlots_singleton hmaster hsample, ?_, congrArg (u.mem.write u.cursor.toNat) hacc, rfl⟩
  exact {
    running := hrun.of_course rfl, bytes := hless, bit := rfl, acc := rfl, final := rfl, closed := rfl
    sampleEn := by
      show (if u.status.bytes - 1 = 0 then false else u.pgctl.sampleEn) = _
      have hzero : u.status.bytes - 1 = 0 ↔ n = 0 := by bv_omega
      simp only [hzero, hen]
      by_cases hn : n = 0 <;> simp [hn] }

end

/-- The slots of a byte: its first seven bits, by induction, and the last one, which stores it. -/
theorem State.Reading.byte {n : Nat} (h : s.Reading (n + 1) u) (hadm : u.byteAdmitted u.cursor.toNat = true)
    (b : Byte) :
    ∃ v, execAll (readSlots (byteBits b)) u = .next v ∧ s.Reading n v ∧ v.mem = u.mem.write u.cursor.toNat b ∧
      v.cursor = u.nextCursor := by
  have first (k : Nat) (hk : k ≤ 7) : ∃ g, g.slotOpen = false ∧
      execAll (readSlots ((List.range k).map b.getLsbD)) u = .next (u.afterBits b k g) := by
    induction k with
    | zero =>
      refine ⟨u.pg, h.closed, congrArg Host.Outcome.next ?_⟩
      show u = { u with acc := lowBits b 0, status := { u.status with bit := 0 } }
      rw [lowBits_zero, ← h.acc, ← h.bit]
    | succ k ih =>
      obtain ⟨g, hg, hbits⟩ := ih (by omega)
      obtain ⟨g', hg', hslot⟩ := h.slot (b := b) (k := k) hg (by omega)
      refine ⟨g', hg', ?_⟩
      rw [List.range_succ, List.map_append, readSlots_append, execAll_append_of_next hbits]
      exact hslot
  obtain ⟨g, hg, hbits⟩ := first 7 le_rfl
  obtain ⟨v, hlast, hv⟩ := h.lastSlot (b := b) hg hadm
  refine ⟨v, ?_, hv⟩
  rw [byteBits, List.range_succ, List.map_append, readSlots_append, execAll_append_of_next hbits]
  exact hlast

/-- The slots of the bytes still to come leave memory as those bytes written at the cursor. -/
theorem State.Reading.bytesToCome {bytes : List Byte} {m : Memory} (h : s.Reading bytes.length u)
    (hok : u.params.ok = true) (hm : (u.writeBytes u.cursor.toNat bytes).map State.mem = some m) :
    ∃ v, execAll (readSlots (bytes.flatMap byteBits)) u = .next v ∧ s.Reading 0 v ∧ v.mem = m := by
  induction bytes generalizing u with
  | nil => exact ⟨u, rfl, h, by simpa [State.writeBytes] using hm⟩
  | cons b bytes ih =>
    obtain ⟨hadm, hrest⟩ := State.writeBytes_cons_mem hm
    obtain ⟨v, hbyte, hv, hmem, hcursor⟩ := h.byte hadm b
    have hframe : v.frame = u.frame := hv.running.frame.trans h.running.frame.symm
    have hparams : v.params = u.params := congrArg Frame.params hframe
    obtain ⟨w, hbytes, hw, hwm⟩ := ih hv (hparams ▸ hok) (by
      rw [hcursor, State.nextCursor_toNat hok, ← hrest]
      exact State.writeBytes_mem_congr hparams (congrArg Frame.memMap hframe) hmem)
    refine ⟨w, ?_, hw, hwm⟩
    rw [List.flatMap_cons, readSlots_append, execAll_append_of_next hbyte]
    exact hbytes

/-- The READ's last MASTER (41_bit_io.md R161). -/
theorem State.Reading.done (h : s.Reading 0 u) : exec (.master false) u = .next (u.latchSlot.endOp.resume 0) := by
  rw [exec_master_read (h.running.masterReady (.inl h.closed)) h.running.op, State.masterRead_final (by exact h.final),
    h.running.latchSlot.complete, State.respond_some]

/-- An accepted READ starts at its first byte (41_bit_io.md R163). -/
theorem State.Ready0.acceptRead_reading (h : s.Ready0) (hok : s.params.ok = true) (h1 : 1 ≤ s.arg1.toNat)
    (hmax : s.arg1.toNat ≤ s.params.countMax) : s.Reading s.arg1.toNat s.acceptRead where
  running := h.arm_running (u := { s.block with
    cursor := s.arg0, acc := 0,
    status := { s.block.status with bytes := BitVec.ofNat 16 s.countOperand, bit := 0 } }) rfl rfl rfl rfl _ _ _ _ _
  bytes := State.bytes_of_countOk hok (State.countBad_eq_false h1 hmax)
  bit := rfl
  acc := rfl
  final := by
    have : s.arg1.toNat ≠ 0 := by omega
    simp only [this, decide_false]
    rfl
  sampleEn := by
    have : s.arg1.toNat ≠ 0 := by omega
    simp [State.acceptRead, this]
  closed := rfl

end

/-- Settles O58: by induction over the bytes, whose slots write them in order into a valid buffer. -/
theorem readFillsItsBuffer : Obligations.ReadFillsItsBuffer := by
  intro s bytes h hok hwf hlen h1 hmax hvalid
  obtain ⟨m, hm, -, hin, hout⟩ := State.writeBytes_of_validRange bytes s s.arg0.toNat hvalid hwf
  rw [← hlen] at h1 hmax hvalid
  have hstart : s.Reading bytes.length s.acceptRead := hlen ▸ h.acceptRead_reading hok h1 hmax
  have hwrite : (s.acceptRead.writeBytes s.acceptRead.cursor.toNat bytes).map State.mem = some m :=
    (State.writeBytes_mem_congr (s := s) (t := s.acceptRead) rfl rfl rfl).trans (congrArg (Option.map State.mem) hm)
  obtain ⟨v, hslots, hv, rfl⟩ := hstart.bytesToCome hok hwrite
  refine ⟨_, ?_, hv.running.latchSlot.resume_ready0 0, rfl, hin, hout⟩
  rw [execAll_of_next (exec_read_accepts h.issueReady h.1 h1 hmax hvalid), readEvents_eq,
    execAll_append_of_next hslots, execAll_of_next hv.done]
  rfl

end Sys2Proof.Machine
end

section
/-! PROOF. O59: a WRITE, bit by bit (41_bit_io.md R164 to R168, R170; 20_memory.md R81). Each MASTER puts on the bus the
bit that the one before it programmed. -/

namespace Sys2Proof.Machine

section
variable {s t u v : State}

/-! ### The slots that PG puts on the bus -/

/-- MASTERs lead from `s` to `t`, and PG latches `lows` at them. -/
inductive State.Sends : State → List LowPulse → State → Prop where
  | nil (s : State) : State.Sends s [] s
  | cons {s t u : State} {low : LowPulse} {lows : List LowPulse} (h : exec (.master false) s = .next t)
    (hlow : t.pg.slotLow = low) (hrest : State.Sends t lows u) : State.Sends s (low :: lows) u

theorem State.Sends.slotTrace {lows : List LowPulse} (h : s.Sends lows t) : slotTrace lows.length s = some lows := by
  induction h with
  | nil => rfl
  | cons h hlow _ ih => simp only [List.length_cons, Machine.slotTrace, h, ih, hlow]

theorem State.Sends.execAll {lows : List LowPulse} (h : s.Sends lows t) :
    execAll (List.replicate lows.length (.master false)) s = .next t := by
  induction h with
  | nil => rfl
  | cons h _ _ ih => rw [List.length_cons, List.replicate_succ, execAll_of_next h, ih]

/-! ### The bits of a WRITE -/

theorem byteBits_length (b : Byte) : (byteBits b).length = 8 := by simp [byteBits]

/-- The bits of the `n` bytes at `a`, in order (20_memory.md R81). -/
def State.bitsAt (s : State) (a n : Nat) : List Bool :=
  (List.range n).flatMap fun j => byteBits (s.mem.read (a + j))

theorem State.bitsAt_succ (s : State) (a n : Nat) :
    s.bitsAt a (n + 1) = byteBits (s.mem.read a) ++ s.bitsAt (a + 1) n := by
  simp only [State.bitsAt, List.range_succ_eq_map, List.flatMap_cons, List.flatMap_map, Nat.add_zero]
  congr 2
  funext j
  rw [Nat.succ_eq_one_add, ← Nat.add_assoc]

theorem State.bitsAt_length (s : State) (a n : Nat) : (s.bitsAt a n).length = 8 * n := by
  induction n generalizing a with
  | zero => rfl
  | succ n ih => rw [State.bitsAt_succ, List.length_append, byteBits_length, ih]; omega

/-- The bits of a WRITE that are still to be programmed: those of its byte in progress and of the bytes after it. -/
def State.bitsToCome (u : State) : List Bool :=
  if u.status.bytes = 0 then []
  else (byteBits u.wbyte).drop u.status.bit.toNat ++ u.bitsAt (u.cursor.toNat + 1) (u.status.bytes.toNat - 1)

theorem State.bitsToCome_zero (h : u.status.bytes = 0) : u.bitsToCome = [] := if_pos h

theorem State.bitsToCome_bit (h : u.status.bytes ≠ 0) :
    u.bitsToCome = u.wbyte.getLsbD u.status.bit.toNat ::
      ((byteBits u.wbyte).drop (u.status.bit.toNat + 1) ++
        u.bitsAt (u.cursor.toNat + 1) (u.status.bytes.toNat - 1)) := by
  have hlt : u.status.bit.toNat < (byteBits u.wbyte).length := by
    rw [byteBits_length]
    exact u.status.bit.isLt
  rw [State.bitsToCome, if_neg h, List.drop_eq_getElem_cons hlt, List.cons_append]
  simp [byteBits]

/-! ### A WRITE from its acceptance on -/

/-- `u` is a state of a WRITE that a host issued in `s`, before its final timeslot. -/
structure State.Writing (s u : State) : Prop where
  running : s.Running .write u
  source : u.wsrc = .memory
  final : u.status.finalTimeslot = false
  sampleEn : u.pgctl.sampleEn = false
  params : u.params.ok = true
  valid : u.status.bytes ≠ 0 → u.validRange u.cursor.toNat u.status.bytes.toNat = true

theorem State.Writing.master (h : s.Writing u) : exec (.master false) u = u.respond u.latchSlot.masterWrite :=
  exec_master_write (h.running.masterReady (.inr h.sampleEn)) h.running.op

/-- What decides how a WRITE ends, and host memory (41_bit_io.md R166). -/
def State.writeEnd (u : State) : Memory × Word × Bool := (u.mem, u.puTime, u.status.needPullup)

/-- AdvW, after the bit that it comes to is programmed: within its byte, at the end of the last one, or with the next
byte, which is fetched from a valid buffer (41_bit_io.md R164). -/
theorem State.Writing.advW (h : s.Writing u) (h0 : u.status.bytes ≠ 0) (low : LowPulse) :
    ∃ v, (u.latchSlot.setNextLow low).advW = some v ∧ s.Writing v ∧
      v.bitsToCome = (byteBits u.wbyte).drop (u.status.bit.toNat + 1) ++
        u.bitsAt (u.cursor.toNat + 1) (u.status.bytes.toNat - 1) ∧
      v.pgctl.nextLow = low ∧ v.pg.slotLow = u.pgctl.nextLow ∧ v.writeEnd = u.writeEnd := by
  have hvalid := h.valid h0
  by_cases h7 : u.status.bit = 7
  swap
  · refine ⟨_, State.advW_within _ h7, ?_, ?_, rfl, rfl, rfl⟩
    · exact { h with running := h.running.of_course rfl }
    · have hnext : (u.status.bit + 1).toNat = u.status.bit.toNat + 1 := by bv_omega
      rw [← hnext]
      exact if_neg h0
  have hdrop : (byteBits u.wbyte).drop (u.status.bit.toNat + 1) = [] := by
    rw [h7]
    exact List.drop_eq_nil_of_le (by simp [byteBits_length])
  rw [hdrop, List.nil_append]
  by_cases h1 : u.status.bytes = 1
  · refine ⟨_, State.advW_last _ h7 h1, ?_, ?_, rfl, rfl, rfl⟩
    · exact { h with running := h.running.of_course rfl, valid := fun hne => absurd rfl hne }
    · rw [h1]
      rfl
  · have hmore : 2 ≤ u.status.bytes.toNat ∧ (u.status.bytes - 1).toNat = u.status.bytes.toNat - 1 ∧
        u.status.bytes - 1 ≠ 0 := by bv_omega
    obtain ⟨htwo, hless, hne⟩ := hmore
    have hcursor := State.nextCursor_exact h.params hvalid htwo
    have hadm : u.byteAdmitted u.nextCursor.toNat = true := by
      rw [hcursor]
      exact u.byteAdmitted_of_validRange _ _ 1 hvalid htwo
    refine ⟨_, State.advW_fetch h7 h1 (State.byteAt_memory h.source hadm), ?_, ?_, rfl, rfl, rfl⟩
    · refine { h with running := h.running.of_course rfl, valid := fun _ => ?_ }
      show u.validRange u.nextCursor.toNat (u.status.bytes - 1).toNat = true
      rw [hcursor, hless]
      exact u.validRange_part _ _ 1 _ hvalid (by omega)
    · obtain ⟨n, hn⟩ : ∃ n, u.status.bytes.toNat - 1 = n + 1 := ⟨u.status.bytes.toNat - 2, by omega⟩
      rw [hn, State.bitsAt_succ, ← hcursor]
      refine (if_neg hne).trans ?_
      show (byteBits (u.mem.read u.nextCursor.toNat)).drop 0 ++
        u.bitsAt (u.nextCursor.toNat + 1) ((u.status.bytes - 1).toNat - 1) = _
      rw [hless, hn]
      rfl

/-- A MASTER programs the next bit, and PG latches the one that was programmed before it (41_bit_io.md R165). -/
theorem State.Writing.bit (h : s.Writing u) (h0 : u.status.bytes ≠ 0) :
    ∃ b v, exec (.master false) u = .next v ∧ s.Writing v ∧ u.bitsToCome = b :: v.bitsToCome ∧
      v.pgctl.nextLow = lowW b ∧ v.pg.slotLow = u.pgctl.nextLow ∧ v.writeEnd = u.writeEnd := by
  obtain ⟨v, hadv, hv, hbits, hnext, hslot, hend⟩ := h.advW h0 (lowW (u.wbyte.getLsbD u.status.bit.toNat))
  refine ⟨_, v, ?_, hv, by rw [State.bitsToCome_bit h0, hbits], hnext, hslot, hend⟩
  rw [h.master, State.masterWrite_bit (by exact h.final) (by exact h0)]
  exact congrArg u.respond hadv

/-- How a WRITE ends that decided `e` (41_bit_io.md R166): in the power phase, or with its host resumed. -/
def State.EndsWrite (w : State) (e : Memory × Word × Bool) : Prop :=
  w.mem = e.1 ∧
    (e.2.2 = true → w.status.op = .pullup ∧ w.status.state = .pullUp ∧ w.put = some e.2.1 ∧
      w.pgctl.puAsserted = true ∧ w.status.waiter = true) ∧
    (e.2.2 = false → w.Ready0 ∧ w.result = 0)

/-- The last two MASTERs: the one of the last bit's slot, and the one of the final timeslot, whose pulse is NONE. -/
theorem State.Writing.finish (h : s.Writing u) (h0 : u.status.bytes = 0) :
    ∃ w, u.Sends [u.pgctl.nextLow, .none] w ∧ w.EndsWrite u.writeEnd := by
  have hlast := h.master
  rw [State.masterWrite_last (by exact h.final) (by exact h0), State.respond_some] at hlast
  have hrun : s.Running .write u.latchSlot.enterFinal := h.running.of_course rfl
  have hfinal := exec_master_write (hrun.masterReady (.inr h.sampleEn)) hrun.op
  rw [State.masterWrite_final rfl] at hfinal
  cases hn : u.status.needPullup with
  | true =>
    rw [State.finishWrite_pullup (by exact hn), State.respond_some] at hfinal
    refine ⟨_, .cons hlast rfl (.cons hfinal rfl (.nil _)), rfl, fun _ => ⟨rfl, rfl, rfl, rfl, ?_⟩, fun he => ?_⟩
    · exact congrArg Frame.waiter h.running.frame
    · exact absurd (hn.symm.trans he) (by simp)
  | false =>
    rw [State.finishWrite_complete (by exact hn), hrun.latchSlot.complete, State.respond_some] at hfinal
    refine ⟨_, .cons hlast rfl (.cons hfinal rfl (.nil _)), rfl, fun he => ?_, fun _ => ⟨?_, rfl⟩⟩
    · exact absurd (hn.symm.trans he) (by simp)
    · exact hrun.latchSlot.resume_ready0 0

/-- The slots of a WRITE carry the bit that is programmed, those still to come, and NONE. -/
theorem State.Writing.sends {bits : List Bool} (h : s.Writing u) (hbits : u.bitsToCome = bits) :
    ∃ w, u.Sends (u.pgctl.nextLow :: (bits.map lowW ++ [.none])) w ∧ w.EndsWrite u.writeEnd := by
  induction bits generalizing u with
  | nil =>
    refine h.finish ?_
    by_contra h0
    simp [State.bitsToCome_bit h0] at hbits
  | cons b bits ih =>
    have h0 : u.status.bytes ≠ 0 := fun h0 => by simp [State.bitsToCome_zero h0] at hbits
    obtain ⟨c, v, hexec, hv, hsplit, hnext, hslot, hend⟩ := h.bit h0
    obtain ⟨rfl, hrest⟩ := List.cons.inj (hbits.symm.trans hsplit)
    obtain ⟨w, hw, hwe⟩ := ih hv hrest.symm
    rw [hnext] at hw
    exact ⟨w, .cons hexec hslot hw, hend ▸ hwe⟩

/-- An accepted WRITE has programmed bit 0 of its first byte (41_bit_io.md R168). -/
theorem State.Ready0.writeAccepted_writing (h : s.Ready0) (hok : s.params.ok = true) (h1 : 1 ≤ s.arg1.toNat)
    (hmax : s.arg1.toNat ≤ s.params.countMax) (hvalid : s.validRange s.arg0.toNat s.arg1.toNat = true) :
    let t := s.writeAccepted (s.mem.read s.arg0.toNat)
    s.Writing t ∧ (s.bitsAt s.arg0.toNat s.arg1.toNat).map lowW = t.pgctl.nextLow :: t.bitsToCome.map lowW := by
  intro t
  have hcount : t.status.bytes.toNat = s.arg1.toNat := State.bytes_of_countOk hok (State.countBad_eq_false h1 hmax)
  have h0 : t.status.bytes ≠ 0 := by bv_omega
  refine ⟨?_, ?_⟩
  · exact {
      running := h.arm_running (u := { s.block with
        cursor := s.arg0, wsrc := .memory, puTime := s.durationOperand, wbyte := s.mem.read s.arg0.toNat
        status := { s.block.status with
          needPullup := s.needPullupFor s.durationOperand, bytes := BitVec.ofNat 16 s.countOperand, bit := 1 } })
        rfl rfl rfl rfl _ _ _ _ _
      source := rfl, final := rfl, sampleEn := rfl, params := hok, valid := fun _ => hcount ▸ hvalid }
  · obtain ⟨n, hn⟩ : ∃ n, s.arg1.toNat = n + 1 := ⟨s.arg1.toNat - 1, by omega⟩
    rw [State.bitsToCome, if_neg h0, hcount, hn, State.bitsAt_succ]
    rfl

end

/-- Settles O59: by induction over the bits that are still to be programmed. -/
theorem writeSendsItsBytesLsbFirst : Obligations.WriteSendsItsBytesLsbFirst := by
  intro s h hok h1 hmax hvalid
  obtain ⟨hwriting, hbits⟩ := h.writeAccepted_writing hok h1 hmax hvalid
  obtain ⟨u, hsends, hmem, hpullup, hdone⟩ := hwriting.sends rfl
  rw [← List.cons_append, ← hbits] at hsends
  have hlen : ((s.bitsAt s.arg0.toNat s.arg1.toNat).map lowW ++ [LowPulse.none]).length = 8 * s.arg1.toNat + 1 := by
    simp [State.bitsAt_length]
  refine ⟨_, u, exec_write_accepts h.issueReady h.1 h1 hmax hvalid, ?_, ?_, hmem, hpullup, hdone⟩
  · rw [← hlen]
    exact hsends.slotTrace
  · rw [← hlen]
    exact hsends.execAll

end Sys2Proof.Machine
end

section
/-! PROOF. O50: the frame of MASTER (41_bit_io.md R158, R161, R165, R166; 42_search_rom.md R201 to R222). -/

namespace Sys2Proof.Machine

/-! ### Memory after a byte string that may wrap -/

theorem State.addrAdd_addrAdd (s : State) (a i j : Nat) : s.addrAdd (s.addrAdd a i) j = s.addrAdd a (i + j) := by
  rw [State.addrAdd, State.addrAdd, State.addrAdd, Nat.mod_add_mod, Nat.add_assoc]

/-- A byte string written at `a` changes only the addresses it is written to, on ADDR_W bits (00_scope.md R12). -/
theorem State.writeBytes_read_elsewhere {bs : List Byte} {s t : State} {a x : Nat} (h : s.writeBytes a bs = some t)
    (hm : s.mem.wf = true) (ha : a < 2 ^ s.params.addrW) (hx : ∀ j < bs.length, x ≠ s.addrAdd a j) :
    t.mem.read x = s.mem.read x := by
  induction bs generalizing s a with
  | nil => cases h; rfl
  | cons b bs ih =>
    rw [State.writeBytes] at h
    cases hw : s.memWrite a b with
    | none => simp [hw] at h
    | some u =>
      obtain ⟨-, rfl⟩ := (State.memWrite_eq_some s u a b).1 hw
      rw [hw] at h
      have hrest (j : Nat) (hj : j < bs.length) : x ≠ s.addrAdd (s.addrAdd a 1) j := by
        rw [State.addrAdd_addrAdd, Nat.add_comm 1 j]
        exact hx (j + 1) (by simpa using hj)
      have hhead : a ≠ x := by
        have := hx 0 (by simp)
        rw [s.addrAdd_exact a 0 ha] at this
        exact this.symm
      calc t.mem.read x
        _ = (s.mem.write a b).read x :=
          ih h (Memory.write_wf _ _ _ hm) (Nat.mod_lt _ (Nat.two_pow_pos _)) hrest
        _ = s.mem.read x := by rw [Memory.read_write _ _ _ _ hm, if_neg hhead]

/-! ### The end of an operation -/

/-- Registers that the end of an operation, SRC's part included, does not write. -/
structure Unarmed where
  acc : Byte
  puTime : Word
  rbuf : Word
  rmax : BitVec 16
  cursor : Word
  driver : DriverState
  puAsserted : Bool

/-- These registers of a state. -/
def State.unarmed (s : State) : Unarmed where
  acc := s.acc
  puTime := s.puTime
  rbuf := s.rbuf
  rmax := s.rmax
  cursor := s.cursor
  driver := s.status.state
  puAsserted := s.pgctl.puAsserted

/-- The byte that a WRITE sends, and its counters, which SRC writes only to send the command byte. -/
def State.sendCounters (s : State) : Byte × BitVec 16 × BitVec 3 := (s.wbyte, s.status.bytes, s.status.bit)

/-- The addresses of the code that a pass records (42_search_rom.md R221). -/
def State.isCodeByte (s : State) (x : Nat) : Prop :=
  ∃ j < 8, x = s.addrAdd s.rbuf.toNat (8 * s.search.devicesFound.toNat + j)

/-- What the end of an operation keeps: a pass's end stores its code, and its reset slot is followed by a WRITE. -/
structure State.EndKeeps (s t : State) : Prop where
  unarmed : t.unarmed = s.unarmed
  counters : s.search.phase ≠ .reset → t.sendCounters = s.sendCounters
  mem : s.search.phase ≠ .triplet → t.mem = s.mem
  stored : s.mem.wf = true → ∀ x, ¬ s.isCodeByte x → t.mem.read x = s.mem.read x

section
variable {s t : State}

theorem State.srcNextPass_unarmed (s : State) :
    s.srcNextPass.unarmed = s.unarmed ∧ s.srcNextPass.sendCounters = s.sendCounters := by
  unfold State.srcNextPass
  split_ifs <;> exact ⟨rfl, rfl⟩

theorem State.srcRecord_read_elsewhere (h : s.srcRecord = some t) (hm : s.mem.wf = true) {x : Nat}
    (hx : ¬ s.isCodeByte x) : t.mem.read x = s.mem.read x := by
  unfold State.srcRecord at h
  cases hw : s.writeBytes (s.addrAdd s.rbuf.toNat (8 * s.search.devicesFound.toNat)) (romBytes s.rom) with
  | none => simp [hw] at h
  | some u =>
    rw [hw] at h
    cases h
    refine State.writeBytes_read_elsewhere (t := u) hw hm (Nat.mod_lt _ (Nat.two_pow_pos _))
      fun j hj he => hx ⟨j, ?_, ?_⟩
    · rwa [romBytes_length] at hj
    · rw [he, State.addrAdd_addrAdd]

/-- The end of a pass writes nothing but its code and the registers of SRC (42_search_rom.md R221). -/
theorem State.srcAfterPass_keeps (h : s.srcAfterPass = some t) :
    t.unarmed = s.unarmed ∧ t.sendCounters = s.sendCounters ∧
      (s.mem.wf = true → ∀ x, ¬ s.isCodeByte x → t.mem.read x = s.mem.read x) := by
  rcases s.srcAfterPass_cases with ⟨-, ha⟩ | ⟨-, -, ha⟩ | ⟨-, u, hu, ha⟩ | ⟨-, u, hu, ha⟩ <;> rw [ha] at h <;> cases h
  · exact ⟨rfl, rfl, fun _ _ _ => rfl⟩
  · refine ⟨?_, ?_, fun hm x hx => State.srcRecord_read_elsewhere hu hm hx⟩ <;>
      rw [(State.srcRecord_frame s u hu).1] <;> rfl
  · obtain ⟨hun, hcount⟩ := State.srcNextPass_unarmed { u with search := { u.search with kind := .next } }
    refine ⟨hun.trans ?_, hcount.trans ?_, fun hm x hx => ?_⟩
    · rw [(State.srcRecord_frame s u hu).1]; rfl
    · rw [(State.srcRecord_frame s u hu).1]; rfl
    · rw [State.srcNextPass_mem]
      exact State.srcRecord_read_elsewhere hu hm hx

theorem State.srcSubDone_keeps {v : Word} (h : s.srcSubDone v = some t) : s.EndKeeps t := by
  unfold State.srcSubDone at h
  cases hp : s.search.phase with
  | idle =>
    rw [hp] at h
    cases h
    exact ⟨rfl, fun _ => rfl, fun _ => rfl, fun _ _ _ => rfl⟩
  | reset =>
    simp only [hp] at h
    split_ifs at h
    · cases (if_pos rfl).symm.trans h
      exact ⟨rfl, fun _ => rfl, fun _ => rfl, fun _ _ _ => rfl⟩
    · rw [State.srcSendSearchCmd, State.armWrite_eq] at h
      cases h
      exact ⟨rfl, fun hne => absurd hp hne, fun _ => rfl, fun _ _ _ => rfl⟩
  | cmd =>
    rw [hp] at h
    cases h
    exact ⟨rfl, fun _ => rfl, fun _ => rfl, fun _ _ _ => rfl⟩
  | triplet =>
    simp only [hp] at h
    obtain ⟨hun, hcount, hstored⟩ := State.srcAfterPass_keeps h
    exact ⟨hun, fun _ => hcount, fun hne => absurd hp hne, hstored⟩

theorem State.complete_keeps {v : Word} (h : s.complete v = some t) : s.EndKeeps t := by
  rw [State.complete_eq] at h
  split_ifs at h with hp
  · cases h
    exact ⟨rfl, fun _ => rfl, fun _ => rfl, fun _ _ _ => rfl⟩
  · obtain ⟨hun, hcount, hmem, hstored⟩ := State.srcSubDone_keeps h
    exact ⟨hun, hcount, hmem, hstored⟩

/-! ### A response to MASTER -/

/-- What a response within an operation keeps, but for the cursor and the counters of a WRITE and the pull-up. -/
structure SlotFrame where
  acc : Byte
  puTime : Word
  rbuf : Word
  rmax : BitVec 16
  driver : DriverState
  slavePresent : Bool
  periodSel : Bool
  sampleSel : Bool
  search : SearchReg
  branch : BranchReg
  rom : BitVec 64
  prev : BitVec 64
  wsrc : WriteSource
  result : Word
  waiter : Bool
  op : BsmOp
  mem : Memory

/-- The frame of a slot. -/
def State.slotFrame (s : State) : SlotFrame where
  acc := s.acc
  puTime := s.puTime
  rbuf := s.rbuf
  rmax := s.rmax
  driver := s.status.state
  slavePresent := s.status.slavePresent
  periodSel := s.pgctl.periodSel
  sampleSel := s.pgctl.sampleSel
  search := s.search
  branch := s.branch
  rom := s.rom
  prev := s.prev
  wsrc := s.wsrc
  result := s.result
  waiter := s.status.waiter
  op := s.status.op
  mem := s.mem

/-- The frame of MASTER, as it is stated. -/
structure State.MasterKeeps (s t : State) : Prop where
  registers : t.acc = s.acc ∧ t.puTime = s.puTime ∧ t.rbuf = s.rbuf ∧ t.rmax = s.rmax
  cursor : s.status.op ≠ .write → t.cursor = s.cursor
  counters : s.status.op ≠ .write → s.search.phase ≠ .reset →
    t.wbyte = s.wbyte ∧ t.status.bytes = s.status.bytes ∧ t.status.bit = s.status.bit
  pullup : s.status.op ≠ .write ∨ s.status.needPullup = false →
    t.status.state = s.status.state ∧ (t.pgctl.puAsserted = true → s.pgctl.puAsserted = true)
  slot : s.search.phase = .idle →
    t.status.slavePresent = s.status.slavePresent ∧ t.pgctl.periodSel = s.pgctl.periodSel ∧
      t.pgctl.sampleSel = s.pgctl.sampleSel
  search : s.search.phase = .idle ∨ s.status.finalTimeslot = false →
    t.search = s.search ∧ t.branch = s.branch ∧ t.rom = s.rom ∧ t.prev = s.prev ∧ t.wsrc = s.wsrc
  host : s.status.finalTimeslot = false →
    t.result = s.result ∧ t.status.waiter = s.status.waiter ∧ t.status.op = s.status.op
  mem : s.search.phase ≠ .triplet ∨ s.status.finalTimeslot = false → t.mem = s.mem
  stored : s.mem.wf = true → ∀ x, ¬ s.isCodeByte x → t.mem.read x = s.mem.read x

/-- A response that keeps the frame of a slot. -/
theorem State.MasterKeeps.of_slotFrame (h : t.slotFrame = s.slotFrame)
    (hw : s.status.op ≠ .write → t.cursor = s.cursor ∧ t.sendCounters = s.sendCounters)
    (hpu : t.pgctl.puAsserted = true → s.pgctl.puAsserted = true) : s.MasterKeeps t := by
  simp only [State.slotFrame, SlotFrame.mk.injEq] at h
  obtain ⟨hacc, hput, hrbuf, hrmax, hdriver, hslave, hperiod, hsample, hsearch, hbranch, hrom, hprev, hwsrc, hresult,
    hwaiter, hop, hmem⟩ := h
  refine ⟨⟨hacc, hput, hrbuf, hrmax⟩, fun hne => (hw hne).1, fun hne _ => ?_, fun _ => ⟨hdriver, hpu⟩,
    fun _ => ⟨hslave, hperiod, hsample⟩, fun _ => ⟨hsearch, hbranch, hrom, hprev, hwsrc⟩,
    fun _ => ⟨hresult, hwaiter, hop⟩, fun _ => hmem, fun _ x _ => by rw [hmem]⟩
  simpa only [State.sendCounters, Prod.mk.injEq] using (hw hne).2

/-- The last MASTER of an operation that has no power phase. -/
theorem State.complete_masterKeeps (hf : s.status.finalTimeslot = true) {v : Word}
    (h : s.latchSlot.complete v = some t) : s.MasterKeeps t := by
  obtain ⟨hun, hcount, hmem, hstored⟩ := State.complete_keeps h
  simp only [State.unarmed, Unarmed.mk.injEq, State.sendCounters, Prod.mk.injEq] at hun hcount
  obtain ⟨hacc, hput, hrbuf, hrmax, hcursor, hdriver, hpu⟩ := hun
  refine ⟨⟨hacc, hput, hrbuf, hrmax⟩, fun _ => hcursor, fun _ => hcount, fun _ => ⟨hdriver, fun ht => hpu ▸ ht⟩,
    fun hp => ?_, fun hp => ?_, fun hno => ?_, fun hp => ?_, hstored⟩
  · rw [State.complete_of_idle (by exact hp)] at h
    cases h
    exact ⟨rfl, rfl, rfl⟩
  · rw [State.complete_of_idle (by exact hp.resolve_right (by simp [hf]))] at h
    cases h
    exact ⟨rfl, rfl, rfl, rfl, rfl⟩
  · simp [hf] at hno
  · exact hmem (hp.resolve_right (by simp [hf]))

theorem State.masterReset_keeps (h : s.latchSlot.masterReset = some t) : s.MasterKeeps t := by
  cases hf : s.status.finalTimeslot with
  | true =>
    rw [State.masterReset_final (by exact hf)] at h
    exact State.complete_masterKeeps hf h
  | false =>
    rw [State.masterReset_pulse (by exact hf)] at h
    cases h
    exact .of_slotFrame rfl (fun _ => ⟨rfl, rfl⟩) id

theorem State.masterRead_keeps (h : s.latchSlot.masterRead = some t) : s.MasterKeeps t := by
  cases hf : s.status.finalTimeslot with
  | true =>
    rw [State.masterRead_final (by exact hf)] at h
    exact State.complete_masterKeeps hf h
  | false =>
    by_cases hlast : s.status.bytes = 1 ∧ s.status.bit = 7
    · rw [State.masterRead_last (by exact hf) (by exact hlast.1) (by exact hlast.2)] at h
      cases h
      exact .of_slotFrame rfl (fun _ => ⟨rfl, rfl⟩) id
    · rw [State.masterRead_bit (by exact hf) (by exact not_and_or.1 hlast)] at h
      cases h
      exact .of_slotFrame rfl (fun _ => ⟨rfl, rfl⟩) id

theorem State.masterWrite_keeps (hop : s.status.op = .write) (h : s.latchSlot.masterWrite = some t) :
    s.MasterKeeps t := by
  cases hf : s.status.finalTimeslot with
  | true =>
    rw [State.masterWrite_final (by exact hf)] at h
    cases hn : s.status.needPullup with
    | true =>
      rw [State.finishWrite_pullup (by exact hn)] at h
      cases h
      exact ⟨⟨rfl, rfl, rfl, rfl⟩, fun _ => rfl, fun _ _ => ⟨rfl, rfl, rfl⟩, fun hno => by simp [hop, hn] at hno,
        fun _ => ⟨rfl, rfl, rfl⟩, fun _ => ⟨rfl, rfl, rfl, rfl, rfl⟩, fun hno => by simp [hf] at hno, fun _ => rfl,
        fun _ _ _ => rfl⟩
    | false =>
      rw [State.finishWrite_complete (by exact hn)] at h
      exact State.complete_masterKeeps hf h
  | false =>
    by_cases h0 : s.status.bytes = 0
    · rw [State.masterWrite_last (by exact hf) (by exact h0)] at h
      cases h
      exact .of_slotFrame rfl (fun _ => ⟨rfl, rfl⟩) id
    · rw [State.masterWrite_bit (by exact hf) (by exact h0)] at h
      rcases State.advW_cases (s.latchSlot.setNextLow _) with
          ⟨-, ha⟩ | ⟨-, -, ha⟩ | ⟨-, -, b, -, ha⟩ | ⟨-, -, -, ha⟩ <;>
        rw [ha] at h <;> cases h <;> exact .of_slotFrame rfl (fun hne => absurd hop hne) id

theorem State.masterTriplet_keeps (h : s.latchSlot.masterTriplet = some t) : s.MasterKeeps t := by
  cases hf : s.status.finalTimeslot with
  | true =>
    rw [State.masterTriplet_final (by exact hf)] at h
    exact State.complete_masterKeeps hf h
  | false =>
    rcases State.masterTriplet_cases (s := s.latchSlot) hf with ⟨-, -, ht⟩ | ⟨k, ht⟩ <;> rw [ht] at h <;> cases h <;>
      exact .of_slotFrame rfl (fun _ => ⟨rfl, rfl⟩) id

theorem State.AnswersMaster.keeps {r : Option State} (h : s.latchSlot.AnswersMaster r) (hr : r = some t) :
    s.MasterKeeps t := by
  cases h with
  | reset => exact State.masterReset_keeps hr
  | read => exact State.masterRead_keeps hr
  | write hop => exact State.masterWrite_keeps hop hr
  | triplet => exact State.masterTriplet_keeps hr

/-- What every MASTER keeps: one without effect, one that records a fault or leaves BSM stuck, and every response. -/
theorem exec_master_keeps (h : exec (.master false) s = .next t) : s.MasterKeeps t := by
  rcases exec_goesOn h with rfl | ⟨c, info, rfl⟩ | ⟨-, r, hrun, hr⟩
  · exact .of_slotFrame rfl (fun _ => ⟨rfl, rfl⟩) id
  · exact .of_slotFrame rfl (fun _ => ⟨rfl, rfl⟩) (by simp)
  · cases hrun with
    | master _ ha =>
      rcases (s.respond_eq_next t r).1 hr with hsome | ⟨-, rfl⟩
      · exact ha.keeps hsome
      · exact .of_slotFrame rfl (fun _ => ⟨rfl, rfl⟩) id

end

/-- Settles O50, clause by clause. -/
theorem masterFrame : Obligations.MasterFrame := by
  intro s t h hm
  obtain ⟨⟨hacc, hput, hrbuf, hrmax⟩, hcursor, hcounters, hpullup, hslot, hsearch, hhost, hmem, hstored⟩ :=
    exec_master_keeps h
  refine ⟨hacc, hput, hrbuf, hrmax, hcursor, hcounters, hpullup, hslot, hsearch, hhost,
    fun hp x => by rw [hmem hp], fun x hx => hstored hm x ?_⟩
  rintro ⟨j, hj, he⟩
  exact hx j hj he

end Sys2Proof.Machine
end

section
/-! PROOF. O51: the frame of SAMPLE (41_bit_io.md R159, R162; 42_search_rom.md R212 to R218). -/

namespace Sys2Proof.Machine

/-- What no response to SAMPLE writes. -/
structure SampleFixed where
  result : Word
  fault : FaultReg
  wbyte : Byte
  wsrc : WriteSource
  puTime : Word
  rbuf : Word
  rmax : BitVec 16
  prev : BitVec 64
  put : Option Word
  driver : DriverState
  op : BsmOp
  waiter : Bool
  needPullup : Bool
  run : Bool
  periodSel : Bool
  sampleSel : Bool
  puAsserted : Bool

/-- These fields of a state. -/
def State.sampleFixed (s : State) : SampleFixed where
  result := s.result
  fault := s.fault
  wbyte := s.wbyte
  wsrc := s.wsrc
  puTime := s.puTime
  rbuf := s.rbuf
  rmax := s.rmax
  prev := s.prev
  put := s.put
  driver := s.status.state
  op := s.status.op
  waiter := s.status.waiter
  needPullup := s.status.needPullup
  run := s.pgctl.run
  periodSel := s.pgctl.periodSel
  sampleSel := s.pgctl.sampleSel
  puAsserted := s.pgctl.puAsserted

/-- What only a READ's SAMPLE writes. -/
structure ReadSide where
  cursor : Word
  acc : Byte
  bytes : BitVec 16
  bit : BitVec 3
  mem : Memory

/-- These fields of a state. -/
def State.readSide (s : State) : ReadSide where
  cursor := s.cursor
  acc := s.acc
  bytes := s.status.bytes
  bit := s.status.bit
  mem := s.mem

/-- The frame of SAMPLE, by what each operation's SAMPLE writes. -/
structure State.SampleKeeps (s t : State) : Prop where
  frame : t.sampleFixed = s.sampleFixed
  triplet : s.status.op ≠ .triplet → t.search = s.search ∧ t.branch = s.branch ∧ t.rom = s.rom ∧
    t.status.finalTimeslot = s.status.finalTimeslot ∧ t.pgctl.nextLow = s.pgctl.nextLow
  read : s.status.op ≠ .read → t.readSide = s.readSide
  reset : s.status.op ≠ .reset → t.status.slavePresent = s.status.slavePresent
  withinByte : s.status.bit ≠ 7 → t.mem = s.mem
  stored : s.mem.wf = true → ∀ x, x ≠ s.cursor.toNat → t.mem.read x = s.mem.read x

section
variable {s t : State} {pin : Bool}

theorem State.sampleRead_keeps (hop : s.status.op = .read) (h : s.closeSlot.sampleRead pin = some t) :
    s.SampleKeeps t := by
  by_cases h7 : s.status.bit = 7
  · obtain ⟨-, rfl⟩ := (State.sampleRead_byte_eq_some (s := s.closeSlot) h7).1 h
    refine ⟨rfl, fun _ => ⟨rfl, rfl, rfl, rfl, rfl⟩, fun hne => absurd hop hne, fun _ => rfl,
      fun hne => absurd h7 hne, fun hm x hx => ?_⟩
    exact (Memory.read_write _ _ _ _ hm).trans (if_neg hx.symm)
  · rw [State.sampleRead_bit (by exact h7)] at h
    cases h
    exact ⟨rfl, fun _ => ⟨rfl, rfl, rfl, rfl, rfl⟩, fun hne => absurd hop hne, fun _ => rfl, fun _ => rfl,
      fun _ _ _ => rfl⟩

/-- A triplet's SAMPLE writes the registers of SRC, and next_low, sample_en and final_timeslot. -/
theorem State.sampleTriplet_fields (s : State) (pin : Bool) :
    (s.sampleTriplet pin).sampleFixed = s.sampleFixed ∧ (s.sampleTriplet pin).readSide = s.readSide ∧
      (s.sampleTriplet pin).status.slavePresent = s.status.slavePresent := by
  unfold State.sampleTriplet
  cases s.search.bitStep with
  | slotA => exact ⟨rfl, rfl, rfl⟩
  | slotB =>
    obtain ⟨bits, ht | ⟨v, single, branch, ht⟩⟩ := s.sampleSlotB_cases pin <;> simp only [ht] <;> exact ⟨rfl, rfl, rfl⟩
  | slotW =>
    simp only [State.sampleSlotW]
    split_ifs <;> exact ⟨rfl, rfl, rfl⟩

theorem State.sampleTriplet_keeps (hop : s.status.op = .triplet) : s.SampleKeeps (s.closeSlot.sampleTriplet pin) := by
  obtain ⟨hframe, hside, hpresent⟩ := s.closeSlot.sampleTriplet_fields pin
  have hmem : (s.closeSlot.sampleTriplet pin).mem = s.mem := congrArg ReadSide.mem hside
  exact ⟨hframe, fun hne => absurd hop hne, fun _ => hside, fun _ => hpresent, fun _ => hmem, fun _ x _ => by rw [hmem]⟩

theorem State.AnswersSample.keeps {r : Option State} (h : s.closeSlot.AnswersSample pin r) (hr : r = some t) :
    s.SampleKeeps t := by
  cases h with
  | reset hop =>
    cases hr
    exact ⟨rfl, fun _ => ⟨rfl, rfl, rfl, rfl, rfl⟩, fun _ => rfl, fun hne => absurd hop hne, fun _ => rfl,
      fun _ _ _ => rfl⟩
  | read hop => exact State.sampleRead_keeps hop hr
  | triplet hop => cases hr; exact State.sampleTriplet_keeps hop

/-- What every SAMPLE keeps that records no fault: one without effect, one that leaves BSM stuck, and every response. -/
theorem exec_sample_keeps (h : exec (.sample pin) s = .next t) (hv : t.fault.valid = false) : s.SampleKeeps t := by
  have unchanged {u : State} (hu : u = s ∨ u = s.stickBsm) : s.SampleKeeps u := by
    rcases hu with rfl | rfl <;>
      exact ⟨rfl, fun _ => ⟨rfl, rfl, rfl, rfl, rfl⟩, fun _ => rfl, fun _ => rfl, fun _ => rfl, fun _ _ _ => rfl⟩
  rcases exec_goesOn h with rfl | ⟨c, info, rfl⟩ | ⟨-, r, hrun, hr⟩
  · exact unchanged (.inl rfl)
  · simp at hv
  · cases hrun with
    | sample _ _ ha =>
      rcases (s.respond_eq_next t r).1 hr with hsome | ht
      · exact ha.keeps hsome
      · exact unchanged (.inr ht.2)

end

/-- Settles O51, field by field. -/
theorem sampleFrame : Obligations.SampleFrame := by
  intro pin s t h hv hm
  obtain ⟨hframe, htriplet, hread, hreset, hwithin, hstored⟩ := exec_sample_keeps h hv
  simp only [State.sampleFixed, SampleFixed.mk.injEq] at hframe
  obtain ⟨hresult, hfault, hwbyte, hwsrc, hputime, hrbuf, hrmax, hprev, hput, hdriver, hop, hwaiter, hneed, hrun,
    hperiod, hsel, hpu⟩ := hframe
  refine ⟨hresult, hfault, hwbyte, hwsrc, hputime, hrbuf, hrmax, hprev, hput, hdriver, hop, hwaiter, hneed, hrun,
    hperiod, hsel, hpu, htriplet, fun hne => ?_, hreset, fun hne x => by rw [hwithin hne], hstored hm⟩
  have hside := hread hne
  simp only [State.readSide, ReadSide.mk.injEq] at hside
  obtain ⟨hcursor, hacc, hbytes, hbit, hmem⟩ := hside
  exact ⟨hcursor, hacc, hbytes, hbit, fun x => by rw [hmem]⟩

end Sys2Proof.Machine
end

section
/-! PROOF. O27 and O36 to O38: the acceptance of SEARCH, and the slots of a triplet (42_search_rom.md R200 to R218). -/

namespace Sys2Proof.Machine

section
variable {s : State}

/-! ### The acceptance of SEARCH -/

/-- With a legal maximum and a valid buffer, SEARCH passes its checks, and there is room for one code. -/
theorem exec_search_accepts (hs : s.IssueReady) (hready : s.status.state = .ready) (hok : s.params.ok = true)
    (h1 : 1 ≤ s.arg1.toNat) (hmax : s.arg1.toNat ≤ s.params.devMax)
    (hvalid : s.validRange s.arg0.toNat (8 * s.arg1.toNat) = true) :
    exec .search s = .next s.searchInit.srcPassStart := by
  have hmaxOk := State.maxBad_eq_false h1 hmax
  replace hvalid : s.validRange s.addrOperand (8 * s.countOperand) = true := hvalid
  calc exec .search s
    _ = .next s.searchInit.srcNextPass :=
      State.issue_of_checksPass hs.1 (by simp [hs.2, hready, State.stateIsNot, hmaxOk, hvalid])
    _ = _ := by rw [State.searchAccepted_eq hok hmaxOk]

/-! ### MASTER in a triplet (42_search_rom.md R211) -/

theorem exec_master_triplet (hm : s.MasterReady) (hop : s.status.op = .triplet) :
    exec (.master false) s = s.respond s.latchSlot.masterTriplet := by
  rw [exec_master_of_ready s hm, hop]

section
variable (hf : s.status.finalTimeslot = false)
include hf

theorem State.masterTriplet_slotA (hb : s.search.bitStep = .slotA) :
    s.masterTriplet = some (s.setNextLow .readLow) := by
  simp [State.masterTriplet, hf, hb]

theorem State.masterTriplet_slotB (hb : s.search.bitStep = .slotB) : s.masterTriplet = some s := by
  simp [State.masterTriplet, hf, hb]

theorem State.masterTriplet_lastBit (hb : s.search.bitStep = .slotW) (hr : s.search.rombit = 63) :
    s.masterTriplet = some s.enterFinal := by
  simp [State.masterTriplet, hf, hb, hr]

theorem State.masterTriplet_nextBit (hb : s.search.bitStep = .slotW) (hr : s.search.rombit ≠ 63) :
    s.masterTriplet = some (s.setNextLow .readLow) := by
  rw [State.masterTriplet, if_neg (by simp [hf]), hb]
  exact if_neg hr

end

/-! ### SAMPLE in a triplet (42_search_rom.md R212, R213, R217) -/

theorem exec_sample_triplet (pin : Bool) (hm : s.SampleReady) (hop : s.status.op = .triplet) :
    exec (.sample pin) s = .next (s.closeSlot.sampleTriplet pin) := by
  rw [exec_sample_of_ready s pin hm, hop]

theorem State.sampleTriplet_slotA (pin : Bool) (hb : s.search.bitStep = .slotA) :
    s.sampleTriplet pin = s.sampleSlotA pin := by
  rw [State.sampleTriplet, hb]

theorem State.sampleTriplet_slotB (pin : Bool) (hb : s.search.bitStep = .slotB) :
    s.sampleTriplet pin = s.sampleSlotB pin := by
  rw [State.sampleTriplet, hb]

theorem State.sampleTriplet_final (pin : Bool) (hb : s.search.bitStep = .slotW)
    (hf : s.status.finalTimeslot = true) : s.sampleTriplet pin = s.stopSampling := by
  rw [State.sampleTriplet, hb]
  exact if_pos hf

theorem State.sampleTriplet_nextBit (pin : Bool) (hb : s.search.bitStep = .slotW)
    (hf : s.status.finalTimeslot = false) : s.sampleTriplet pin = { s with
      search := { s.search with rombit := s.search.rombit + 1, bitStep := .slotA, bitBuf := 0 } } := by
  rw [State.sampleTriplet, hb]
  exact if_neg (by simp [hf])

/-! ### The pair of a triplet (42_search_rom.md R213, R214) -/

/-- The state with B captured beside A. -/
def State.withB (s : State) (pin : Bool) : State :=
  { s with search := { s.search with bitBuf := putBit s.search.bitBuf 1 pin } }

/-- What SRC does with the class of a pair (R213). -/
def State.answerPair (s : State) : PairClass → State
  | .nobody => s.abortPass
  | .allZero => s.storeAndWrite false
  | .allOne => s.storeAndWrite true
  | .conflict => s.takeBranch

theorem State.sampleSlotB_eq (s : State) (pin : Bool) :
    s.sampleSlotB pin = (s.withB pin).answerPair (classifyPair (s.search.bitBuf.getLsbD 0) pin) := by
  have hA : (s.withB pin).search.bitBuf.getLsbD 0 = s.search.bitBuf.getLsbD 0 := putBit_getLsbD _ _ _ _ (by decide)
  have hB : (s.withB pin).search.bitBuf.getLsbD 1 = pin := putBit_getLsbD _ _ _ _ (by decide)
  calc s.sampleSlotB pin
    _ = (s.withB pin).answerPair (classifyPair ((s.withB pin).search.bitBuf.getLsbD 0)
          ((s.withB pin).search.bitBuf.getLsbD 1)) := rfl
    _ = _ := by rw [hA, hB]

/-- Nobody answers: (A, B) = (1, 1). -/
theorem State.sampleSlotB_nobody (hA : s.search.bitBuf.getLsbD 0 = true) :
    s.sampleSlotB true = (s.withB true).abortPass := by
  rw [State.sampleSlotB_eq, hA]
  rfl

/-- All devices agree on bit A: B is its complement. -/
theorem State.sampleSlotB_agree {pin : Bool} (h : s.search.bitBuf.getLsbD 0 ≠ pin) :
    s.sampleSlotB pin = (s.withB pin).storeAndWrite (s.search.bitBuf.getLsbD 0) := by
  obtain rfl : pin = !s.search.bitBuf.getLsbD 0 := Bool.eq_not_of_ne h.symm
  rw [State.sampleSlotB_eq]
  cases s.search.bitBuf.getLsbD 0 <;> rfl

/-- A conflict: (A, B) = (0, 0). -/
theorem State.sampleSlotB_conflict (hA : s.search.bitBuf.getLsbD 0 = false) :
    s.sampleSlotB false = (s.withB false).takeBranch := by
  rw [State.sampleSlotB_eq, hA]
  rfl

theorem State.takeBranch_eq {v : Bool} {br : BranchReg} (h : chooseBranch s.search.rombit s.prev s.branch = (v, br)) :
    s.takeBranch =
      State.storeAndWrite { s with branch := br, search := { s.search with singleDevice := false } } v := by
  rw [State.takeBranch, h]

section
variable {i : BitVec 6} {prev : BitVec 64} {br : BranchReg}

/-- Below the marker the branch of the pass before is taken again. -/
theorem chooseBranch_below (h : (i.toNat : Int) < br.prevZero.toInt) :
    chooseBranch i prev br = (prev.getLsbD i.toNat,
      { br with lastZero := if prev.getLsbD i.toNat then br.lastZero else i.setWidth 8 }) := by
  rw [chooseBranch, if_pos h]
  cases prev.getLsbD i.toNat <;> rfl

/-- At the marker the other branch is taken. -/
theorem chooseBranch_at (h : (i.toNat : Int) = br.prevZero.toInt) :
    chooseBranch i prev br = (true, { br with prevZero := -1 }) := by
  rw [chooseBranch, if_neg (by omega), if_pos h]

/-- Above the marker the 0 branch is taken first. -/
theorem chooseBranch_above (h : br.prevZero.toInt < (i.toNat : Int)) :
    chooseBranch i prev br = (false, { br with lastZero := i.setWidth 8 }) := by
  rw [chooseBranch, if_neg (by omega), if_neg (by omega)]

end

end

/-- Settles O27: no check fails, rmax takes the whole maximum, and SRC starts a pass. -/
theorem searchStartsItsFirstPass : Obligations.SearchStartsItsFirstPass := by
  intro s hs hready hok h1 hmax hvalid
  have hrmax := (State.rmax_of_maxOk hok (State.maxBad_eq_false h1 hmax)).1
  rw [← s.countOperand_setWidth]
  exact ⟨hrmax, exec_search_accepts hs hready hok h1 hmax hvalid⟩

/-- Settles O36: by the final timeslot, and by the slot and the bit of the triplet. -/
theorem masterInTriplet : Obligations.MasterInTriplet := by
  intro s hm hop
  rw [exec_master_triplet hm hop]
  refine ⟨fun hf => ?_, fun hf hb => ?_, fun hf hb => ?_, fun hf hb hr => ?_, fun hf hb hr => ?_⟩
  · rw [State.masterTriplet_final (by exact hf)]
  · rw [State.masterTriplet_slotA (by exact hf) (by exact hb)]
    rfl
  · rw [State.masterTriplet_slotB (by exact hf) (by exact hb)]
    rfl
  · rw [State.masterTriplet_lastBit (by exact hf) (by exact hb) (by exact hr)]
    rfl
  · rw [State.masterTriplet_nextBit (by exact hf) (by exact hb) (by exact hr)]
    rfl

/-- Settles O37: slot A captures the pin, and slot W moves on or ends the sampling. -/
theorem sampleInSlotsAAndW : Obligations.SampleInSlotsAAndW := by
  intro s pin hm hop
  rw [exec_sample_triplet pin hm hop]
  refine ⟨fun hb => ⟨putBit s.search.bitBuf 0 pin, putBit_getLsbD _ _ _ _ (by decide),
    putBit_getLsbD _ _ _ _ (by decide), ?_⟩, fun hb hf => ?_, fun hb hf => ?_⟩
  · rw [State.sampleTriplet_slotA pin (by exact hb)]
    rfl
  · rw [State.sampleTriplet_final pin (by exact hb) (by exact hf)]
    rfl
  · rw [State.sampleTriplet_nextBit pin (by exact hb) (by exact hf)]
    rfl

/-- Settles O38: by the pair, and on a conflict by where the bit index lies from the marker. -/
theorem sampleInSlotBChoosesTheBit : Obligations.SampleInSlotBChoosesTheBit := by
  intro s pin hm hop hb i pz
  have hexec := exec_sample_triplet pin hm hop
  rw [State.sampleTriplet_slotB pin (by exact hb)] at hexec
  have hrom (v : Bool) (j : Nat) (hj : j < 64) : (putBit s.rom s.search.rombit.toNat v).getLsbD j =
      if j = s.search.rombit.toNat then v else s.rom.getLsbD j := putBit_getLsbD _ _ _ _ hj
  refine ⟨putBit s.search.bitBuf 1 pin, putBit_getLsbD _ _ _ _ (by decide), putBit_getLsbD _ _ _ _ (by decide),
    fun hA hpin => ?nobody, fun hne => ?_⟩
  case nobody =>
    subst hpin
    rw [State.sampleSlotB_nobody (by exact hA)] at hexec
    exact hexec
  by_cases hpair : s.search.bitBuf.getLsbD 0 = pin
  case neg =>
    rw [State.sampleSlotB_agree (by exact hpair)] at hexec
    exact ⟨_, _, _, _, hexec, hrom _, fun hA _ => ⟨hA, rfl, rfl⟩, fun hA _ => ⟨hA, rfl, rfl⟩,
      fun hA hB => absurd (hA.trans hB.symm) hpair⟩
  case pos =>
    obtain rfl : pin = false := Bool.eq_false_iff.2 fun hpin => hne ⟨hpair.trans hpin, hpin⟩
    rcases hc : chooseBranch s.search.rombit s.prev s.branch with ⟨v, br⟩
    rw [State.sampleSlotB_conflict (by exact hpair), State.takeBranch_eq (by exact hc)] at hexec
    refine ⟨v, false, _, br, hexec, hrom v, by simp, fun hA _ => absurd (hA.symm.trans hpair) (by simp),
      fun _ _ => ⟨rfl, fun hlt => ?_, fun heq => ?_, fun hgt => ?_⟩⟩
    · cases (chooseBranch_below hlt).symm.trans hc
      exact ⟨rfl, rfl, rfl⟩
    · cases (chooseBranch_at heq).symm.trans hc
      exact ⟨rfl, rfl, rfl⟩
    · cases (chooseBranch_above hgt).symm.trans hc
      exact ⟨rfl, rfl, rfl⟩

end Sys2Proof.Machine
end

section
/-! PROOF. O39 to O41: what SRC does where an operation of a pass ends (42_search_rom.md R201 to R210, R219 to R222). -/

namespace Sys2Proof.Machine

section
variable {s t : State}

/-! ### Complete while a SEARCH is in flight (41_bit_io.md R157; 42_search_rom.md R201) -/

theorem State.complete_of_search (hp : s.search.phase ≠ .idle) (v : Word) : s.complete v = s.endOp.srcSubDone v := by
  rw [State.complete_eq, if_neg hp]

theorem State.srcSubDone_absent (hp : s.search.phase = .reset) :
    s.srcSubDone 0 = some (State.srcFinish { s with search := { s.search with result := .error } }) := by
  rw [State.srcSubDone, hp]
  rfl

/-- The command byte of a pass is armed (R205): it is the one byte of its WRITE. -/
def State.searchCmdArmed (s : State) : State :=
  State.arm { s with
    wsrc := .searchRom
    wbyte := s.params.cmdSearchRom
    status := { s.status with needPullup := false, bytes := 1, bit := 1 } } .write false false false
      (lowW (s.params.cmdSearchRom.getLsbD 0))

theorem State.srcSendSearchCmd_eq (s : State) : s.srcSendSearchCmd = some s.searchCmdArmed := State.armWrite_eq _ _ _

theorem State.srcSubDone_present (hp : s.search.phase = .reset) :
    s.srcSubDone 1 = some (State.searchCmdArmed { s with search := { s.search with phase := .cmd } }) := by
  rw [State.srcSubDone, hp]
  exact State.srcSendSearchCmd_eq _

theorem State.srcSubDone_cmd (hp : s.search.phase = .cmd) (v : Word) :
    s.srcSubDone v = some (State.srcArmTriplets { s with search := { s.search with phase := .triplet } }) := by
  rw [State.srcSubDone, hp]

theorem State.srcSubDone_triplet (hp : s.search.phase = .triplet) (v : Word) :
    s.srcSubDone v = s.srcEndPass.srcAfterPass := by
  rw [State.srcSubDone, hp]

section
variable (hm : s.MasterReady) (hf : s.status.finalTimeslot = true)
include hm hf

section
variable (hop : s.status.op = .reset) (hp : s.search.phase = .reset)
include hop hp

/-- The last MASTER of a pass's reset hands the presence to SRC. -/
theorem exec_master_endsReset :
    exec (.master false) s = s.respond (s.latchSlot.endOp.srcSubDone (flagWord s.status.slavePresent)) := by
  rw [exec_master_reset hm hop, State.masterReset_final (by exact hf),
    State.complete_of_search (by simp [State.latchSlot, hp])]
  rfl

theorem exec_master_endsReset_absent (h : s.status.slavePresent = false) :
    exec (.master false) s = .next (State.srcFinish { s.latchSlot.endOp with
      search := { s.search with result := .error } }) := by
  rw [exec_master_endsReset hm hf hop hp, h, flagWord_false, State.srcSubDone_absent (by exact hp)]
  rfl

theorem exec_master_endsReset_present (h : s.status.slavePresent = true) :
    exec (.master false) s = .next (State.searchCmdArmed { s.latchSlot.endOp with
      search := { s.search with phase := .cmd } }) := by
  rw [exec_master_endsReset hm hf hop hp, h, flagWord_true, State.srcSubDone_present (by exact hp)]
  rfl

end

/-- The last MASTER of a pass's command byte arms its triplets (R210). -/
theorem exec_master_endsCommand (hop : s.status.op = .write) (hp : s.search.phase = .cmd)
    (hn : s.status.needPullup = false) :
    exec (.master false) s = .next (State.srcArmTriplets { s.latchSlot.endOp with
      search := { s.search with phase := .triplet } }) := by
  rw [exec_master_write hm hop, State.masterWrite_final (by exact hf), State.finishWrite_complete (by exact hn),
    State.complete_of_search (by simp [State.latchSlot, hp]), State.srcSubDone_cmd (by exact hp)]
  rfl

/-- The last MASTER of a pass hands its code to SRC (R211, R220). -/
theorem exec_master_endsPass (hop : s.status.op = .triplet) (hp : s.search.phase = .triplet) :
    exec (.master false) s = s.respond s.latchSlot.endOp.srcEndPass.srcAfterPass := by
  rw [exec_master_triplet hm hop, State.masterTriplet_final (by exact hf),
    State.complete_of_search (by simp [State.latchSlot, hp]), State.srcSubDone_triplet (by exact hp)]

end

/-! ### The end of a pass (42_search_rom.md R220, R221) -/

/-- A validated pass is the last one exactly where no branch is unexplored. -/
theorem passResult_of_valid {r : PassResult} {rom : BitVec 64} {single : Bool} {lastZero : BitVec 8} (hr : r ≠ .error)
    (hcrc : crc8 ((romBytes rom).take 7) = rom.extractLsb' 56 8) :
    passResult r rom single lastZero = if single = true ∨ lastZero.toInt < 0 then .last else .success := by
  simp [passResult, hr, (romCrcOk_iff rom).2 hcrc]

theorem State.srcAfterPass_error (hr : s.search.result = .error) : s.srcAfterPass = some s.srcFinish := if_pos hr

/-- While a code fits, its eight bytes land at rbuf + 8k, byte 0 first, and nowhere else. -/
theorem State.srcRecord_of_room (hroom : s.search.devicesFound < s.rmax)
    (hvalid : s.validRange s.rbuf.toNat (8 * s.rmax.toNat) = true) (hwf : s.mem.wf = true) :
    ∃ m, s.srcRecord = some (s.recorded m) ∧
      (∀ j < 8, m.read (s.rbuf.toNat + 8 * s.search.devicesFound.toNat + j) = s.rom.extractLsb' (8 * j) 8) ∧
      s.SameMemOutside (s.recorded m) (s.rbuf.toNat + 8 * s.search.devicesFound.toNat) 8 := by
  have hfits : 8 * s.search.devicesFound.toNat + 8 ≤ 8 * s.rmax.toNat := by bv_omega
  obtain ⟨-, hwrap⟩ := s.validRange_bounds _ _ hvalid
  have haddr := s.addrAdd_exact s.rbuf.toNat (8 * s.search.devicesFound.toNat) (by omega)
  have hpart : s.validRange (s.rbuf.toNat + 8 * s.search.devicesFound.toNat) (romBytes s.rom).length = true := by
    rw [romBytes_length]
    exact s.validRange_part _ _ _ _ hvalid hfits
  obtain ⟨m, hw, -, hin, hout⟩ := State.writeBytes_of_validRange _ s _ hpart hwf
  rw [romBytes_length] at hout
  refine ⟨m, by simp [State.srcRecord, State.recorded, haddr, hw], fun j hj => ?_, hout⟩
  rw [hin j (by rwa [romBytes_length])]
  simp [romBytes, romByte]

/-- So it is where the last MASTER of a pass has handed the code to SRC. -/
theorem State.endPass_srcRecord (hroom : s.search.devicesFound < s.rmax)
    (hvalid : s.validRange s.rbuf.toNat (8 * s.rmax.toNat) = true) (hwf : s.mem.wf = true) :
    ∃ m : Memory, s.latchSlot.endOp.srcEndPass.srcRecord = some (s.latchSlot.endOp.srcEndPass.recorded m) ∧
      (∀ j < 8, m.read (s.rbuf.toNat + 8 * s.search.devicesFound.toNat + j) = s.rom.extractLsb' (8 * j) 8) ∧
      ∀ x, x < s.rbuf.toNat + 8 * s.search.devicesFound.toNat ∨
        s.rbuf.toNat + 8 * s.search.devicesFound.toNat + 8 ≤ x → m.read x = s.mem.read x :=
  State.srcRecord_of_room (s := s.latchSlot.endOp.srcEndPass) hroom hvalid hwf

section
variable {m : Memory} (hrec : s.srcRecord = some (s.recorded m))
include hrec

theorem State.srcAfterPass_last (hr : s.search.result = .last) : s.srcAfterPass = some (s.recorded m).srcFinish := by
  rw [State.srcAfterPass, if_neg (by simp [hr]), hrec]
  exact if_pos hr

theorem State.srcAfterPass_success (hr : s.search.result = .success) :
    s.srcAfterPass =
      some (State.srcNextPass { s.recorded m with search := { (s.recorded m).search with kind := .next } }) := by
  rw [State.srcAfterPass, if_neg (by simp [hr]), hrec]
  exact if_neg (by simp [State.recorded, hr])

end

end

/-- Settles O39: by what the presence sample was, and by what armed the operation. -/
theorem passGoesFromResetToCommandToTriplets : Obligations.PassGoesFromResetToCommandToTriplets := by
  intro s hm hf
  refine ⟨fun hp hop habsent => ?_, fun hp hop hpresent => ?_, fun hp hop hn => ?_⟩
  · exact ⟨_, s.branch, s.rom, s.prev, by rfl, exec_master_endsReset_absent hm hf hop hp habsent⟩
  · exact exec_master_endsReset_present hm hf hop hp hpresent
  · exact exec_master_endsCommand hm hf hop hp hn

/-- Settles O40: the pass's result is ERROR. -/
theorem failedPassStoresNothing : Obligations.FailedPassStoresNothing := by
  intro s hm hf hop hp hfail
  have herror : passResult s.search.result s.rom s.search.singleDevice s.branch.lastZero = .error := by
    by_contra hne
    obtain ⟨hr, hcrc⟩ := (passResult_ne_error_iff _ _ _ _).1 hne
    exact hfail.elim hr fun h => h ((romCrcOk_iff _).1 hcrc)
  have hexec := exec_master_endsPass hm hf hop hp
  rw [State.srcAfterPass_error (by exact herror)] at hexec
  exact ⟨_, s.branch, s.rom, s.prev, by rfl, hexec⟩

/-- Settles O41: by whether a branch is unexplored, and whether the buffer has room for another code. -/
theorem validatedCodeIsRecorded : Obligations.ValidatedCodeIsRecorded := by
  intro s hm hf hop hp hr hcrc hroom hvalid hwf
  obtain ⟨m, hrec, hin, hout⟩ := State.endPass_srcRecord hroom hvalid hwf
  have hcount : (s.search.devicesFound + 1).toNat = s.search.devicesFound.toNat + 1 := by bv_omega
  have hresult : ((s.search.devicesFound + 1).setWidth 32).toNat = s.search.devicesFound.toNat + 1 := by
    rw [BitVec.toNat_setWidth, hcount]
    omega
  have hpass := passResult_of_valid (single := s.search.singleDevice) (lastZero := s.branch.lastZero) hr hcrc
  rw [exec_master_endsPass hm hf hop hp]
  by_cases hlast : s.search.singleDevice = true ∨ s.branch.lastZero.toInt < 0
  · rw [if_pos hlast] at hpass
    rw [State.srcAfterPass_last hrec hpass]
    refine ⟨_, rfl, hin, hout, fun _ => ⟨rfl, rfl, rfl, rfl, hresult⟩, fun hsingle hbranch => ?_⟩
    exact absurd hlast (by simp [hsingle, hbranch])
  rw [if_neg hlast] at hpass
  rw [State.srcAfterPass_success hrec hpass]
  by_cases hfull : s.search.devicesFound + 1 = s.rmax
  · rw [State.srcNextPass, if_pos (by exact hfull)]
    exact ⟨_, rfl, hin, hout, fun _ => ⟨rfl, rfl, rfl, rfl, hresult⟩, fun _ _ hne => absurd hfull hne⟩
  · rw [State.srcNextPass, if_neg (by exact hfull)]
    refine ⟨_, rfl, hin, hout, fun h => ?_, fun _ _ _ => by and_intros <;> rfl⟩
    rw [← or_assoc] at h
    exact absurd h (not_or.2 ⟨hlast, hfull⟩)

end Sys2Proof.Machine
end

section
/-! PROOF. O60: a SEARCH on a bus with one device, from its acceptance to its one pass's end (42_search_rom.md R200 to
R222). No conflict arises, so the pass is the last one. -/

namespace Sys2Proof.Machine

section
variable {s u v : State} {p : SearchPhase} {k : BsmOp} {rom : BitVec 64}

/-! ### The one pass of a SEARCH -/

/-- What a pass that meets no conflict and is not aborted keeps from its start to its end. -/
structure Pass where
  mem : Memory
  rbuf : Word
  rmax : BitVec 16
  found : BitVec 16
  single : Bool
  result : PassResult

/-- These fields of a state. -/
def State.pass (u : State) : Pass where
  mem := u.mem
  rbuf := u.rbuf
  rmax := u.rmax
  found := u.search.devicesFound
  single := u.search.singleDevice
  result := u.search.result

/-- `u` is a state of the first pass of a SEARCH that a host issued in `s`, within operation `k` of phase `p`; but for
the phase it is like a state of an operation that runs alone. -/
structure State.Searching (s : State) (p : SearchPhase) (k : BsmOp) (u : State) : Prop where
  running : s.Running k { u with search := { u.search with phase := .idle } }
  phase : u.search.phase = p
  pass : u.pass = {
    mem := s.mem, rbuf := s.arg0, rmax := s.searchInit.rmax, found := 0, single := true, result := .success }

theorem State.Searching.op (h : s.Searching p k u) : u.status.op = k := h.running.op

theorem State.Searching.masterReady (h : s.Searching p k u) (hslot : u.pg.slotOpen = false ∨ u.pgctl.sampleEn = false) :
    u.MasterReady :=
  h.running.masterReady hslot

theorem State.Searching.sampleReady (h : s.Searching p k u) (hen : u.pgctl.sampleEn = true)
    (hopen : u.pg.slotOpen = true) : u.SampleReady :=
  h.running.sampleReady hen hopen

theorem State.Searching.of_course (h : s.Searching p k u) (hc : v.course = u.course) (hpass : v.pass = u.pass) :
    s.Searching p k v where
  running := h.running.of_course (congrArg (fun c : Course => { c with phase := .idle }) hc)
  phase := (congrArg Course.phase hc).trans h.phase
  pass := hpass.trans h.pass

theorem State.Searching.latchSlot (h : s.Searching p k u) : s.Searching p k u.latchSlot := h.of_course rfl rfl

/-- The pass's next operation runs, in the phase that SRC has gone on to (42_search_rom.md R201). -/
theorem State.Searching.next {p' : SearchPhase} {k' : BsmOp} (h : s.Searching p k u) (hframe : v.frame = u.frame)
    (hphase : v.search.phase = p') (hop : v.status.op = k') (hrun : v.pgctl.run = true)
    (hpu : v.pgctl.puAsserted = u.pgctl.puAsserted) (hput : v.put = u.put) (hpass : v.pass = u.pass) :
    s.Searching p' k' v where
  running := {
    ready0 := h.running.ready0, frame := hframe.trans h.running.frame, op := hop, phase := rfl, run := hrun
    puAsserted := hpu.trans h.running.puAsserted, put := hput.trans h.running.put }
  phase := hphase
  pass := hpass.trans h.pass

/-- An accepted SEARCH has armed the reset of its first pass (42_search_rom.md R200, R204). -/
theorem State.Ready0.srcPassStart_searching (h : s.Ready0) :
    s.Searching .reset .reset s.searchInit.srcPassStart := by
  obtain ⟨-, -, -, hp, -⟩ := id h
  exact {
    running := h.arm_running (u := { s.searchInit.srcPassInit with
      status := { s.searchInit.status with slavePresent := false }
      search := { s.searchInit.srcPassInit.search with phase := .idle } }) rfl hp.symm rfl rfl _ _ _ _ _
    phase := rfl
    pass := rfl }

/-! ### The command byte (42_search_rom.md R205; 41_bit_io.md R165) -/

/-- `u` is a state of the pass's command byte, before its final timeslot, with `n` bits of the byte programmed. -/
structure State.SendingCmd (s : State) (n : Nat) (u : State) : Prop where
  searching : s.Searching .cmd .write u
  bytes : u.status.bytes = if n = 8 then 0 else 1
  bit : u.status.bit = BitVec.ofNat 3 n
  final : u.status.finalTimeslot = false
  sampleEn : u.pgctl.sampleEn = false
  needPullup : u.status.needPullup = false

theorem State.SendingCmd.master {n : Nat} (h : s.SendingCmd n u) :
    exec (.master false) u = u.respond u.latchSlot.masterWrite :=
  exec_master_write (h.searching.masterReady (.inr h.sampleEn)) h.searching.op

/-- The pass's reset, with the presence pulse sampled, starts the command byte (R201, R205). -/
theorem State.Ready0.srcPassStart_sendsCmd (h : s.Ready0) :
    ∃ v, execAll [.master false, .sample false, .master false] s.searchInit.srcPassStart = .next v ∧
      s.SendingCmd 1 v := by
  have harmed := h.srcPassStart_searching
  have hpulse : s.Searching .reset .reset s.searchInit.srcPassStart.latchSlot.enterFinal := harmed.of_course rfl rfl
  have hsampled : s.Searching .reset .reset
      (s.searchInit.srcPassStart.latchSlot.enterFinal.closeSlot.sampleReset false) := hpulse.of_course rfl rfl
  have hmaster := exec_master_reset (harmed.masterReady (.inl rfl)) harmed.op
  have hsample := exec_sample_reset false (hpulse.sampleReady rfl rfl) hpulse.op
  have hend := exec_master_endsReset_present (hsampled.masterReady (.inl rfl)) rfl hsampled.op hsampled.phase rfl
  rw [State.masterReset_pulse rfl, State.respond_some] at hmaster
  refine ⟨_, (execAll_of_next hmaster).trans ((execAll_of_next hsample).trans (execAll_of_next hend)), ?_⟩
  exact {
    searching := hsampled.next rfl rfl rfl rfl rfl rfl rfl
    bytes := rfl, bit := rfl, final := rfl, sampleEn := rfl, needPullup := rfl }

/-- A MASTER programs the next bit; the last one uses the byte up. -/
theorem State.SendingCmd.programBit {n : Nat} (h : s.SendingCmd n u) (hn : n < 8) :
    ∃ v, exec (.master false) u = .next v ∧ s.SendingCmd (n + 1) v := by
  have hbytes : u.status.bytes = 1 := h.bytes.trans (if_neg (by omega))
  have hmaster := h.master
  rw [State.masterWrite_bit (by exact h.final) (by simp [State.latchSlot, hbytes])] at hmaster
  have hnext : BitVec.ofNat 3 n + 1 = BitVec.ofNat 3 (n + 1) := (BitVec.ofNat_add n 1).symm
  by_cases h7 : n = 7
  · subst h7
    rw [State.advW_last _ (by exact h.bit) (by exact hbytes), State.respond_some] at hmaster
    exact ⟨_, hmaster, { h with searching := h.searching.of_course rfl rfl, bytes := rfl, bit := rfl }⟩
  · have hne : u.status.bit ≠ 7 := by
      rw [h.bit]
      bv_omega
    rw [State.advW_within _ (by exact hne), State.respond_some] at hmaster
    refine ⟨_, hmaster, { h with
      searching := h.searching.of_course rfl rfl, bytes := hbytes.trans (if_neg (by omega)).symm, bit := ?_ }⟩
    show u.status.bit + 1 = _
    rw [h.bit, hnext]

theorem State.SendingCmd.programBits {n m : Nat} (h : s.SendingCmd n u) (hm : n + m = 8) :
    ∃ v, execAll (List.replicate m (.master false)) u = .next v ∧ s.SendingCmd 8 v := by
  induction m generalizing n u with
  | zero =>
    obtain rfl : n = 8 := by omega
    exact ⟨u, rfl, h⟩
  | succ m ih =>
    obtain ⟨v, hbit, hv⟩ := h.programBit (by omega)
    obtain ⟨w, hbits, hw⟩ := ih hv (by omega)
    exact ⟨w, (execAll_of_next hbit).trans hbits, hw⟩

/-! ### The triplets (42_search_rom.md R210 to R217) -/

/-- `u` is a state of the pass's triplets at the start of slot `b` of bit `i`, with the low `n` bits of `rom` stored. -/
structure State.Identifying (s : State) (rom : BitVec 64) (b : BitStep) (i n : Nat) (u : State) : Prop where
  searching : s.Searching .triplet .triplet u
  step : u.search.bitStep = b
  rombit : u.search.rombit.toNat = i
  known : ∀ j < n, u.rom.getLsbD j = rom.getLsbD j
  final : u.status.finalTimeslot = false
  sampleEn : u.pgctl.sampleEn = true
  closed : u.pg.slotOpen = false

/-- The last two MASTERs of the command byte, the second of which arms the triplets (R210). -/
theorem State.SendingCmd.done (h : s.SendingCmd 8 u) :
    ∃ v, execAll [.master false, .master false] u = .next v ∧ s.Identifying rom .slotA 0 0 v := by
  have hlast := h.master
  rw [State.masterWrite_last (by exact h.final) (by exact h.bytes), State.respond_some] at hlast
  have hfinal : s.Searching .cmd .write u.latchSlot.enterFinal := h.searching.of_course rfl rfl
  have hend := exec_master_endsCommand (hfinal.masterReady (.inr h.sampleEn)) rfl hfinal.op hfinal.phase h.needPullup
  refine ⟨_, (execAll_of_next hlast).trans (execAll_of_next hend), ?_⟩
  exact {
    searching := hfinal.next rfl rfl rfl rfl rfl rfl rfl
    step := rfl, rombit := rfl, known := by simp, final := rfl, sampleEn := rfl, closed := rfl }

section
variable {b : BitStep} {i n : Nat}

theorem State.Identifying.master (h : s.Identifying rom b i n u) :
    exec (.master false) u = u.respond u.latchSlot.masterTriplet :=
  exec_master_triplet (h.searching.masterReady (.inl h.closed)) h.searching.op

/-- Slot A captures the device's bit. -/
theorem State.Identifying.slotA (h : s.Identifying rom .slotA i n u) (pin : Bool) :
    ∃ v, execAll (readSlots [pin]) u = .next v ∧ s.Identifying rom .slotB i n v ∧ v.search.bitBuf.getLsbD 0 = pin := by
  have hmaster := h.master
  rw [State.masterTriplet_slotA (by exact h.final) (by exact h.step), State.respond_some] at hmaster
  have hslot : s.Searching .triplet .triplet (u.latchSlot.setNextLow .readLow) := h.searching.of_course rfl rfl
  have hsample := exec_sample_triplet pin (hslot.sampleReady h.sampleEn rfl) hslot.op
  rw [State.sampleTriplet_slotA pin (by exact h.step)] at hsample
  refine ⟨_, readSlots_singleton hmaster hsample, ?_, putBit_getLsbD _ _ _ _ (by decide)⟩
  exact { h with searching := hslot.of_course rfl rfl, step := rfl, closed := rfl }

/-- Slot B captures the complement, so the bit is stored (R213, R216). -/
theorem State.Identifying.slotB (h : s.Identifying rom .slotB i i u) (hi : i < 64)
    (hA : u.search.bitBuf.getLsbD 0 = rom.getLsbD i) :
    ∃ v, execAll (readSlots [!rom.getLsbD i]) u = .next v ∧ s.Identifying rom .slotW i (i + 1) v := by
  have hmaster := h.master
  rw [State.masterTriplet_slotB (by exact h.final) (by exact h.step), State.respond_some] at hmaster
  have hslot := h.searching.latchSlot
  have hsample := exec_sample_triplet (!rom.getLsbD i) (hslot.sampleReady h.sampleEn rfl) hslot.op
  have hAB : u.search.bitBuf.getLsbD 0 ≠ !rom.getLsbD i := by
    rw [hA]
    exact (Bool.not_ne_self _).symm
  rw [State.sampleTriplet_slotB _ (by exact h.step), State.sampleSlotB_agree (by exact hAB)] at hsample
  refine ⟨_, readSlots_singleton hmaster hsample, ?_⟩
  refine { h with searching := hslot.of_course rfl rfl, step := rfl, closed := rfl, known := fun j hj => ?_ }
  have hstored : (putBit u.rom u.search.rombit.toNat (u.search.bitBuf.getLsbD 0)).getLsbD j =
      if j = i then rom.getLsbD i else u.rom.getLsbD j := by
    rw [putBit_getLsbD _ _ _ _ (by omega), h.rombit, hA]
  refine hstored.trans ?_
  by_cases hji : j = i
  · rw [if_pos hji, hji]
  · rw [if_neg hji, h.known j (by omega)]

/-- Slot W, whatever its pin is, goes on to the next bit (R217). -/
theorem State.Identifying.slotW (h : s.Identifying rom .slotW i n u) (hi : i < 63) (pin : Bool) :
    ∃ v, execAll (readSlots [pin]) u = .next v ∧ s.Identifying rom .slotA (i + 1) n v := by
  have hrombit := h.rombit
  have hmaster := h.master
  have hne : u.search.rombit ≠ 63 := by bv_omega
  rw [State.masterTriplet_nextBit (by exact h.final) (by exact h.step) (by exact hne), State.respond_some] at hmaster
  have hslot : s.Searching .triplet .triplet (u.latchSlot.setNextLow .readLow) := h.searching.of_course rfl rfl
  have hsample := exec_sample_triplet pin (hslot.sampleReady h.sampleEn rfl) hslot.op
  rw [State.sampleTriplet_nextBit pin (by exact h.step) (by exact h.final)] at hsample
  refine ⟨_, readSlots_singleton hmaster hsample, ?_⟩
  have hnext : (u.search.rombit + 1).toNat = i + 1 := by bv_omega
  exact { h with searching := hslot.of_course rfl rfl, step := rfl, closed := rfl, rombit := hnext }

/-- Slot W of the last bit, whatever its pin is, ends the sampling (R211, R217). -/
theorem State.Identifying.lastSlotW (h : s.Identifying rom .slotW 63 n u) (pin : Bool) :
    ∃ v, execAll (readSlots [pin]) u = .next v ∧ s.Searching .triplet .triplet v ∧ v.status.finalTimeslot = true ∧
      v.pgctl.sampleEn = false ∧ v.rom = u.rom := by
  have hmaster := h.master
  have hlast : u.search.rombit = 63 := BitVec.eq_of_toNat_eq h.rombit
  rw [State.masterTriplet_lastBit (by exact h.final) (by exact h.step) (by exact hlast), State.respond_some] at hmaster
  have hslot : s.Searching .triplet .triplet u.latchSlot.enterFinal := h.searching.of_course rfl rfl
  have hsample := exec_sample_triplet pin (hslot.sampleReady h.sampleEn rfl) hslot.op
  rw [State.sampleTriplet_final pin (by exact h.step) rfl] at hsample
  exact ⟨_, readSlots_singleton hmaster hsample, hslot.of_course rfl rfl, rfl, rfl, rfl⟩

/-- Slots A and B of a bit, on the bus where one device answers. -/
theorem State.Identifying.pair (h : s.Identifying rom .slotA i i u) (hi : i < 64) :
    ∃ v, execAll (readSlots [rom.getLsbD i] ++ readSlots [!rom.getLsbD i]) u = .next v ∧
      s.Identifying rom .slotW i (i + 1) v := by
  obtain ⟨v, hslotA, hv, hA⟩ := h.slotA (rom.getLsbD i)
  obtain ⟨w, hslotB, hw⟩ := hv.slotB hi hA
  exact ⟨w, (execAll_append_of_next hslotA).trans hslotB, hw⟩

end

/-- The first `n` triplets on the bus where one device answers with `rom`. -/
def deviceTriplets (rom : BitVec 64) (w : Nat → Bool) (n : Nat) : List Instr :=
  (List.range n).flatMap fun i => tripletEvents (rom.getLsbD i) (!rom.getLsbD i) (w i)

theorem deviceTriplets_succ (rom : BitVec 64) (w : Nat → Bool) (n : Nat) :
    deviceTriplets rom w (n + 1) =
      deviceTriplets rom w n ++ ((readSlots [rom.getLsbD n] ++ readSlots [!rom.getLsbD n]) ++ readSlots [w n]) := by
  rw [deviceTriplets, List.range_succ, List.flatMap_append, List.flatMap_singleton]
  rfl

theorem singleDeviceEvents_eq (rom : BitVec 64) (w : Nat → Bool) :
    singleDeviceEvents rom w =
      [.master false, .sample false, .master false] ++ (List.replicate 7 (.master false) ++
        ([.master false, .master false] ++ (deviceTriplets rom w 64 ++ [.master false]))) := by
  simp only [singleDeviceEvents, deviceTriplets, List.append_assoc]
  rfl

/-- The triplets before the last one store their bits, by induction. -/
theorem State.Identifying.triplets (h : s.Identifying rom .slotA 0 0 u) (w : Nat → Bool) {n : Nat} (hn : n ≤ 63) :
    ∃ v, execAll (deviceTriplets rom w n) u = .next v ∧ s.Identifying rom .slotA n n v := by
  induction n with
  | zero => exact ⟨u, rfl, h⟩
  | succ n ih =>
    obtain ⟨v, hbefore, hv⟩ := ih (by omega)
    obtain ⟨x, hpair, hx⟩ := hv.pair (by omega)
    obtain ⟨y, hslotW, hy⟩ := hx.slotW (by omega) (w n)
    refine ⟨y, ?_, hy⟩
    rw [deviceTriplets_succ, execAll_append_of_next hbefore, execAll_append_of_next hpair, hslotW]

/-- All 64 triplets identify the device (R217). -/
theorem State.Identifying.allTriplets (h : s.Identifying rom .slotA 0 0 u) (w : Nat → Bool) :
    ∃ v, execAll (deviceTriplets rom w 64) u = .next v ∧ s.Searching .triplet .triplet v ∧
      v.status.finalTimeslot = true ∧ v.pgctl.sampleEn = false ∧ v.rom = rom := by
  obtain ⟨v, hbefore, hv⟩ := h.triplets w le_rfl
  obtain ⟨x, hpair, hx⟩ := hv.pair (by decide)
  obtain ⟨y, hslotW, hy, hf, hen, hrom⟩ := hx.lastSlotW (w 63)
  refine ⟨y, ?_, hy, hf, hen, hrom.trans (BitVec.eq_of_getLsbD_eq hx.known)⟩
  rw [deviceTriplets_succ, execAll_append_of_next hbefore, execAll_append_of_next hpair, hslotW]

/-! ### The end of the pass (42_search_rom.md R219 to R222) -/

/-- The last MASTER records the code, and the host is resumed with the count of 1. -/
theorem State.Searching.done (h : s.Searching .triplet .triplet u) (hok : s.params.ok = true) (hwf : s.mem.wf = true)
    (h1 : 1 ≤ s.arg1.toNat) (hmax : s.arg1.toNat ≤ s.params.devMax)
    (hvalid : s.validRange s.arg0.toNat (8 * s.arg1.toNat) = true) (hf : u.status.finalTimeslot = true)
    (hen : u.pgctl.sampleEn = false) (hcrc : crc8 ((romBytes u.rom).take 7) = u.rom.extractLsb' 56 8) :
    ∃ t, exec (.master false) u = .next t ∧ t.Ready0 ∧ t.result = 1 ∧
      (∀ j < 8, t.mem.read (s.arg0.toNat + j) = u.rom.extractLsb' (8 * j) 8) ∧
      s.SameMemOutside t s.arg0.toNat 8 := by
  obtain ⟨hrmax, hrmax0⟩ := State.rmax_of_maxOk hok (State.maxBad_eq_false h1 hmax)
  have hpass := h.pass
  simp only [State.pass, Pass.mk.injEq] at hpass
  obtain ⟨hmem, hrbuf, hcap, hfound, hsingle, hresult⟩ := hpass
  have hroom : u.search.devicesFound < u.rmax := by
    rw [hfound, hcap]
    bv_omega
  have hbuffer : u.validRange u.rbuf.toNat (8 * u.rmax.toNat) = true := by
    have hframe := h.running.frame
    rw [hrbuf, hcap, hrmax, State.validRange_congr (congrArg Frame.params hframe) (congrArg Frame.memMap hframe)]
    exact hvalid
  obtain ⟨m, hrec, hin, hout⟩ := State.endPass_srcRecord hroom hbuffer (hmem ▸ hwf)
  have haddr : u.rbuf.toNat + 8 * u.search.devicesFound.toNat = s.arg0.toNat := by
    rw [hrbuf, hfound]
    rfl
  rw [haddr] at hin hout
  have hlast : passResult u.search.result u.rom u.search.singleDevice u.branch.lastZero = .last := by
    rw [passResult_of_valid (by simp [hresult]) hcrc]
    exact if_pos (.inl hsingle)
  have hexec := exec_master_endsPass (h.masterReady (.inr hen)) hf h.op h.phase
  rw [State.srcAfterPass_last hrec hlast, State.respond_some] at hexec
  have hrunning : s.Running .triplet { u.latchSlot with
      mem := m
      prev := u.rom
      search := { u.latchSlot.endOp.srcEndPass.search with
        phase := .idle, devicesFound := u.search.devicesFound + 1 } } :=
    { h.running with phase := rfl }
  refine ⟨_, hexec, hrunning.resume_ready0 _, ?_, hin, fun x hx => (hout x hx).trans (by rw [hmem])⟩
  show (u.search.devicesFound + 1).setWidth 32 = 1
  rw [hfound]
  rfl

end

/-- Settles O60: the pass goes through its reset, its command byte and its 64 triplets, by induction over them. -/
theorem singleDeviceIsFound : Obligations.SingleDeviceIsFound := by
  intro s rom w h hok hwf h1 hmax hvalid hcrc
  obtain ⟨t1, hreset, ht1⟩ := h.srcPassStart_sendsCmd
  obtain ⟨t2, hcmd, ht2⟩ := ht1.programBits (m := 7) rfl
  obtain ⟨t3, hcmdEnd, ht3⟩ := ht2.done (rom := rom)
  obtain ⟨t4, htriplets, ht4, hf, hen, rfl⟩ := ht3.allTriplets w
  obtain ⟨t, hend, ht⟩ := ht4.done hok hwf h1 hmax hvalid hf hen hcrc
  refine ⟨t, ?_, ht⟩
  rw [execAll_of_next (exec_search_accepts h.issueReady h.1 hok h1 hmax hvalid), singleDeviceEvents_eq,
    execAll_append_of_next hreset, execAll_append_of_next hcmd, execAll_append_of_next hcmdEnd,
    execAll_append_of_next htriplets, execAll_of_next hend]
  rfl

end Sys2Proof.Machine
end

section
/-! PROOF. O16 to O18 and O12: the lifecycle commands, and which command is legal in which driver state
(43_lifecycle.md R250 to R254). -/

namespace Sys2Proof.Machine

section
variable {s t : State} {info : Byte} {acc : Result}

/-! ### The two checks in front (60_exceptions.md R275) -/

/-- While a host is blocked every command raises BUSY: its check is the first of all. -/
theorem State.issue_busy (hv : s.fault.valid = false) (hw : s.status.waiter = true)
    {checks : List (Bool × FaultCause)} :
    s.issue info ((s.status.waiter, .busy) :: checks) acc = .next (s.raiseFault .busy info) :=
  State.issue_of_firstCause hv (if_pos hw)

/-- With no host blocked, a driver state outside the command's raises BAD_STATE, whatever the operands. -/
theorem State.issue_badState (hv : s.fault.valid = false) (hw : s.status.waiter = false) {outside : Bool}
    (ho : outside = true) {checks : List (Bool × FaultCause)} :
    s.issue info ((s.status.waiter, .busy) :: (outside, .badState) :: checks) acc =
      .next (s.raiseFault .badState info) :=
  State.issue_of_firstCause hv (by simp [hw, ho])

theorem State.stateIsNot_iff {d : DriverState} : s.stateIsNot d = true ↔ s.status.state ≠ d := decide_eq_true_iff

theorem State.stateIsNot_eq_false {d : DriverState} (h : s.status.state = d) : s.stateIsNot d = false :=
  decide_eq_false (not_not_intro h)

/-! ### A fault's cause is that of a check that fails -/

theorem firstCause_mem {checks : List (Bool × FaultCause)} {c : FaultCause} (h : firstCause checks = some c) :
    (true, c) ∈ checks := by
  induction checks with
  | nil => simp at h
  | cons p rest ih =>
    obtain ⟨failed, cause⟩ := p
    cases failed with
    | true => simp_all
    | false => exact List.mem_cons_of_mem _ (ih h)

/-- What holds of every check that fails holds of a fault that a command records, where its acceptance records none. -/
theorem State.issue_cause {checks : List (Bool × FaultCause)} (h : s.issue info checks acc = .next t)
    (hv : s.fault.valid = false) (hacc : acc = .next t → t.fault = s.fault) (ht : t.fault.valid = true)
    {P : FaultCause → Prop} (hP : ∀ p ∈ checks, p.1 = true → P p.2) : P t.fault.cause := by
  rcases s.issue_cases info checks acc with ⟨hv', -⟩ | ⟨-, c, hc, hi⟩ | ⟨-, -, hi⟩
  · simp [hv] at hv'
  · cases hi.symm.trans h
    exact hP _ (firstCause_mem hc) rfl
  · simp [hacc (hi.symm.trans h), hv] at ht

/-- A response that records no fault leaves FAULT as it was, also where BSM gets stuck at it. -/
theorem State.respond_fault_eq {r : Option State} (h : s.respond r = .next t)
    (hr : r = some t → t.fault = s.fault) : t.fault = s.fault := by
  rcases (s.respond_eq_next t r).1 h with hsome | ⟨-, rfl⟩
  · exact hr hsome
  · rfl

theorem State.acceptWrite_fault_eq (h : s.acceptWrite = some t) : t.fault = s.fault := by
  cases hb : s.memRead s.addrOperand with
  | none => simp [State.acceptWrite, hb] at h
  | some b =>
    cases (State.acceptWrite_eq hb).symm.trans h
    rfl

theorem State.srcNextPass_fault_eq (s : State) : s.srcNextPass.fault = s.fault := by
  obtain ⟨w, hw⟩ := s.srcNextPass_frame
  exact congrArg Frame.fault hw

end

/-! ### The configuration word (43_lifecycle.md R251, R252) -/

/-- ConfigValid, check by check (R252). -/
theorem State.configValid_iff {s : State} {c : Word} : s.configValid c = true ↔
    c.getLsbD 8 = true ∧ c.getLsbD 9 = true ∧
    (c.extractLsb' 0 4).toNat < s.params.pgChannels ∧ (c.extractLsb' 4 4).toNat < s.params.pgChannels ∧
    c.extractLsb' 0 4 ≠ c.extractLsb' 4 4 ∧ c.getLsbD 10 = c.getLsbD 11 ∧ c.extractLsb' 12 20 = 0 := by
  have hch : masterCh c ≠ sampleCh c ↔ c.extractLsb' 0 4 ≠ c.extractLsb' 4 4 := BitVec.toNat_inj.not
  simp only [State.configValid, Bool.and_eq_true, decide_eq_true_iff, beq_iff_eq, hch, and_assoc]
  rfl

/-- START latches bits 0 to 11 as they are (R251). -/
theorem boundConfig_word (c : Word) : (boundConfig c).extractLsb' 0 12 = c.extractLsb' 0 12 :=
  BitVec.extractLsb'_append_eq_right

/-! ### The obligations -/

/-- Settles O16: UNINIT passes both checks, and the acceptance writes the last column of R60. -/
theorem objinitSetsEveryField : Obligations.ObjinitSetsEveryField := by
  refine fun s hv => ⟨fun hw => State.issue_busy hv hw,
    fun hw hs => State.issue_badState hv hw (State.stateIsNot_iff.2 hs), fun hw hs => ?accepted⟩
  case accepted =>
    calc exec .objinit s
      _ = .next s.objinit := State.issue_of_checksPass hv (by simp [hw, State.stateIsNot_eq_false hs])
      _ = _ := rfl

/-- Settles O17: the configuration word is checked after the host and the driver state. -/
theorem startBindsAValidConfiguration : Obligations.StartBindsAValidConfiguration := by
  refine fun s hv => ⟨fun hw => State.issue_busy hv hw,
    fun hw hs => State.issue_badState hv hw (State.stateIsNot_iff.2 hs), fun hw hs hbad => ?badConfig,
    fun hw hs hok => ⟨boundConfig s.arg0, boundConfig_bound _, boundConfig_word _, ?accepted⟩⟩
  case badConfig =>
    have hinvalid : s.configValid s.arg0 = false := by
      rw [← Bool.not_eq_true, State.configValid_iff]
      exact hbad
    exact State.issue_of_firstCause hv (by simp [hw, State.stateIsNot_eq_false hs, hinvalid])
  case accepted =>
    exact State.issue_of_checksPass hv
      (by simp [hw, State.stateIsNot_eq_false hs, State.configValid_iff.2 hok])

/-- Settles O18: UNINIT is the only driver state that STOP's check refuses. -/
theorem stopReleasesTheGenerator : Obligations.StopReleasesTheGenerator :=
  fun _ hv => ⟨fun hw => State.issue_busy hv hw, fun hw hs => State.issue_badState hv hw (decide_eq_true hs),
    fun hw hs => State.issue_of_checksPass hv (by simp [hw, hs])⟩

/-- The cause of a fault that an operand check raises (30_encoding.md R103; 60_exceptions.md R275). -/
def FaultCause.OfOperand (c : FaultCause) : Prop := c = .badCount ∨ c = .badMax ∨ c = .badBuffer

/-- With no host blocked, a command of READY there, and CRC8 anywhere, fails at most an operand check. -/
theorem exec_cause_ofOperand {s t : State} (hv : s.fault.valid = false) (hw : s.status.waiter = false) {i : Instr}
    (hi : s.status.state = .ready ∧ (i = .reset ∨ i = .read ∨ i = .write ∨ i = .search) ∨ i = .crc8)
    (h : exec i s = .next t) (ht : t.fault.valid = true) : t.fault.cause.OfOperand := by
  rcases hi with ⟨hready, hi⟩ | rfl
  · have hstate : s.stateIsNot .ready = false := State.stateIsNot_eq_false hready
    rcases hi with rfl | rfl | rfl | rfl
    · exact State.issue_cause h hv (by rintro ⟨⟩; rfl) ht (by simp [hw, hstate])
    · exact State.issue_cause h hv (by rintro ⟨⟩; rfl) ht (by simp [hw, hstate, FaultCause.OfOperand])
    · exact State.issue_cause h hv (fun ha => State.respond_fault_eq ha State.acceptWrite_fault_eq) ht
        (by simp [hw, hstate, FaultCause.OfOperand])
    · exact State.issue_cause h hv (by rintro ⟨⟩; exact s.searchInit.srcNextPass_fault_eq) ht
        (by simp [hw, hstate, FaultCause.OfOperand])
  · refine State.issue_cause h hv (fun ha => State.respond_fault_eq ha fun hr => ?_) ht
      (by simp [hw, FaultCause.OfOperand])
    obtain ⟨_, -, rfl⟩ := Option.map_eq_some_iff.1 hr
    rfl

/-- Settles O12: a command's first two checks are its host and its driver states; the lifecycle commands' own statements
say what their acceptance does. -/
theorem commandLegalityByState : Obligations.CommandLegalityByState := by
  intro s hv
  obtain ⟨-, objinitRefused, objinitAccepted⟩ := objinitSetsEveryField s hv
  obtain ⟨-, startRefused, -, startAccepted⟩ := startBindsAValidConfiguration s hv
  obtain ⟨-, stopRefused, stopAccepted⟩ := stopReleasesTheGenerator s hv
  refine ⟨fun hw => ?busy, fun hw => ⟨objinitRefused hw, startRefused hw, stopRefused hw, fun hs => ?notReady,
    fun hs => ⟨_, objinitAccepted hw hs, rfl, rfl⟩, fun hs hc => ?start, fun hs => ⟨_, stopAccepted hw hs, rfl, rfl⟩,
    fun i t hi h ht => ?operands⟩⟩
  case busy => and_intros <;> exact State.issue_busy hv hw
  case notReady => and_intros <;> exact State.issue_badState hv hw (State.stateIsNot_iff.2 hs)
  case start =>
    obtain ⟨c, -, -, h⟩ := startAccepted hw hs (State.configValid_iff.1 hc)
    exact ⟨_, h, rfl, rfl⟩
  case operands =>
    rcases exec_cause_ofOperand hv hw hi h ht with hc | hc | hc <;> simp [hc]

end Sys2Proof.Machine
end

section
/-! PROOF. O10 and O11: fault entry, and the machine that has recorded a fault (60_exceptions.md R271, R272;
70_reset_and_hazards.md R300). -/

namespace Sys2Proof.Machine

section
variable {s t : State}

/-! ### A fault is precise (60_exceptions.md R271) -/

/-- `s.Records t`: the instruction that leads from `s` to `t` leaves FAULT as it was, or enters a fault that has a cause
and has no other effect. -/
inductive State.Records (s t : State) : Prop where
  | keeps (h : t.fault = s.fault)
  | entry {cause : FaultCause} {info : Byte} (hc : cause ≠ .none) (h : t = s.raiseFault cause info)

theorem State.Records.of_self (h : Host.Outcome.next s = (.next t : Result)) : s.Records t := by
  cases h
  exact .keeps rfl

theorem State.Records.of_spurious {info : Byte}
    (h : Host.Outcome.next (s.raiseFault .spuriousEvent info) = (.next t : Result)) : s.Records t := by
  cases h
  exact .entry (by decide) rfl

/-- A command records what its first failing check names, where its acceptance records no fault. -/
theorem State.issue_records {info : Byte} {checks : List (Bool × FaultCause)} {acc : Result}
    (h : s.issue info checks acc = .next t) (hchecks : ∀ p ∈ checks, p.2 ≠ .none)
    (hacc : acc = .next t → t.fault = s.fault) : s.Records t := by
  rcases s.issue_cases info checks acc with ⟨-, hi⟩ | ⟨-, c, hc, hi⟩ | ⟨-, -, hi⟩ <;> rw [hi] at h
  · exact .of_self h
  · cases h
    exact .entry (hchecks _ (firstCause_mem hc)) rfl
  · exact .keeps (hacc h)

theorem State.masterReady_of_due (ha : s.Answers) (h : s.masterDue = true) : s.MasterReady :=
  ⟨ha, by simpa [State.masterDue] using h⟩

theorem State.sampleReady_of_due (ha : s.Answers) (h : s.sampleDue = true) : s.SampleReady :=
  ⟨ha, by simpa [State.sampleDue, and_assoc] using h⟩

theorem exec_master_records (ha : s.Answers) (h : exec (.master false) s = .next t) : s.Records t := by
  by_cases hs : s.masterDue = false ∨ s.status.op = .none ∨ s.status.op = .pullup
  · exact .of_spurious ((exec_master_spurious ha hs).symm.trans h)
  · simp only [not_or, Bool.not_eq_false] at hs
    obtain ⟨hdue, hop⟩ := hs
    obtain ⟨r, hr, he⟩ := exec_master_answers (State.masterReady_of_due ha hdue) hop
    refine .keeps (State.respond_fault_eq (he.symm.trans h) fun hsome => ?_)
    obtain ⟨d, w, hframe⟩ := (hr.leaves hsome).frame_eq
    exact congrArg Frame.fault hframe

theorem exec_sample_records {pin : Bool} (ha : s.Answers) (h : exec (.sample pin) s = .next t) : s.Records t := by
  by_cases hs : s.sampleDue = false ∨ s.status.op = .none ∨ s.status.op = .write ∨ s.status.op = .pullup
  · exact .of_spurious ((exec_sample_spurious pin ha hs).symm.trans h)
  · simp only [not_or, Bool.not_eq_false] at hs
    obtain ⟨hdue, hnone, hwrite, hpullup⟩ := hs
    obtain ⟨r, hr, he⟩ := exec_sample_answers pin (State.sampleReady_of_due ha hdue) ⟨hnone, hpullup, hwrite⟩
    exact .keeps (State.respond_fault_eq (he.symm.trans h) fun hsome => congrArg Frame.fault (hr.frame_eq hsome))

theorem exec_pullupEnd_records (ha : s.Answers) (h : exec (.pullupEnd false) s = .next t) : s.Records t := by
  by_cases hop : s.status.op = .pullup
  · cases (exec_pullupEnd_of_pullup ha hop).symm.trans h
    exact .keeps rfl
  · exact .of_spurious ((exec_pullupEnd_spurious ha hop).symm.trans h)

/-- An event changes nothing, or OWE answers it. -/
theorem exec_event_records {i : Instr} (hi : i = .master false ∨ (∃ pin, i = .sample pin) ∨ i = .pullupEnd false)
    (h : exec i s = .next t) : s.Records t := by
  by_cases hignored : s.ignoresEvents = true
  · obtain ⟨hmaster, hsample, hpullup⟩ := exec_event_of_ignored s hignored
    rcases hi with rfl | ⟨pin, rfl⟩ | rfl
    · exact .of_self (hmaster.symm.trans h)
    · exact .of_self ((hsample pin).symm.trans h)
    · exact .of_self (hpullup.symm.trans h)
  · have ha : s.Answers := by simpa [State.ignoresEvents] using hignored
    rcases hi with rfl | ⟨pin, rfl⟩ | rfl
    · exact exec_master_records ha h
    · exact exec_sample_records ha h
    · exact exec_pullupEnd_records ha h

/-- Only a command's checks and an event that has no response enter a fault (60_exceptions.md R275; 41_bit_io.md
R155). -/
theorem exec_records {i : Instr} (h : exec i s = .next t) : s.Records t := by
  cases i with
  | objinit | start | stop | reset | read => exact State.issue_records h (by simp) (by rintro ⟨⟩; rfl)
  | search => exact State.issue_records h (by simp) (by rintro ⟨⟩; exact s.searchInit.srcNextPass_fault_eq)
  | write =>
    exact State.issue_records h (by simp) (fun ha => State.respond_fault_eq ha State.acceptWrite_fault_eq)
  | crc8 =>
    refine State.issue_records h (by simp) fun ha => State.respond_fault_eq ha fun hr => ?_
    obtain ⟨_, -, rfl⟩ := Option.map_eq_some_iff.1 hr
    rfl
  | master pin =>
    cases pin with
    | false => exact exec_event_records (.inl rfl) h
    | true => cases h
  | sample pin => exact exec_event_records (.inr (.inl ⟨pin, rfl⟩)) h
  | pullupEnd pin =>
    cases pin with
    | false => exact exec_event_records (.inr (.inr rfl)) h
    | true => cases h

/-! ### The faulted state (60_exceptions.md R272) -/

/-- Host memory and its map, the stuck and the halted hosts, the inputs still to come and what a host has read are no
registers of OWE (10_state.md R31). -/
theorem State.sameOwe_outside {mem : Memory} {memMap : List Region} {stuck : StuckAgents} {halts : List Halt}
    {inputs : List Input} {readData : Word} :
    s.SameOwe { s with
      mem := mem, memMap := memMap, stuck := stuck, halts := halts, inputs := inputs, readData := readData } := by
  and_intros <;> rfl

theorem State.hostStore_sameOwe {who : HostId} {a : Word} {b : Byte} (h : s.hostStore who a b = .next t) :
    s.SameOwe t := by
  unfold State.hostStore at h
  split_ifs at h
  · cases h
    exact State.sameOwe_outside
  · split at h
    · cases h
    · rename_i u hw
      obtain ⟨-, rfl⟩ := (State.memWrite_eq_some _ _ _ _).1 hw
      cases h
      exact State.sameOwe_outside

theorem State.hostLoad_sameOwe {who : HostId} {a : Word} (h : s.hostLoad who a = .next t) : s.SameOwe t := by
  unfold State.hostLoad at h
  split_ifs at h
  · cases h
    exact State.sameOwe_outside
  · split at h <;> cases h
    exact State.sameOwe_outside

section
variable (hv : s.fault.valid = true)
include hv

/-- No action of a host changes a register of OWE, not even a write to one. -/
theorem State.hostAct_sameOwe {who : HostId} {act : HostAction} (h : s.hostAct who act = .next t) : s.SameOwe t := by
  cases act with
  | write off size v =>
    simp only [State.hostAct, s.writeReg_of_faulted who hv] at h
    split at h <;> cases h <;> exact State.sameOwe_outside
  | read off size =>
    simp only [State.hostAct] at h
    split at h <;> cases h <;> exact State.sameOwe_outside
  | store a b => exact State.hostStore_sameOwe h
  | load a => exact State.hostLoad_sameOwe h
  | halt =>
    cases h
    exact State.sameOwe_outside

/-- An event word that decodes is a legal one, and its event changes nothing. -/
theorem State.deliverEvent_of_faulted {w : BitVec 3} (h : s.deliverEvent w = .next t) : t = s := by
  unfold State.deliverEvent at h
  split at h
  · rename_i i hi
    rw [exec_of_faulted hv (decodedWordIsItsEncoding _ i hi).1] at h
    cases h
    rfl
  all_goals cases h
  rfl

theorem State.deliver_sameOwe {i : Input} (hi : i ≠ .powerOn) (h : s.deliver i = .next t) : s.SameOwe t := by
  cases i with
  | host who act =>
    simp only [State.deliver] at h
    split_ifs at h
    · cases h
      exact State.sameOwe_outside
    · exact State.hostAct_sameOwe hv h
  | event w =>
    obtain rfl := State.deliverEvent_of_faulted hv h
    exact State.sameOwe_outside
  | turn =>
    simp only [State.deliver, State.environmentMoves_eq_false (.inl hv), Bool.false_eq_true, if_false] at h
    cases h
    exact State.sameOwe_outside
  | memMap regions =>
    cases h
    exact State.sameOwe_outside
  | powerOn => exact absurd rfl hi

theorem step_sameOwe (hp : s.powersOn = false) (h : step s = .next t) : s.SameOwe t := by
  cases ha : s.arrival with
  | some p =>
    obtain ⟨i, rest⟩ := p
    rw [step_of_arrival s i rest ha] at h
    refine State.deliver_sameOwe (s := { s with inputs := rest }) hv ?_ h
    rintro rfl
    simp [s.powersOn_iff.2 ⟨rest, ha⟩] at hp
  | none =>
    simp only [step, State.advance, ha, State.environmentMoves_eq_false (.inl hv), Bool.false_eq_true, if_false,
      State.quiet] at h
    split_ifs at h
    cases h
    exact State.sameOwe_outside

end

end

/-! ### The obligations -/

/-- Settles O10: an instruction that has recorded a fault has entered it, and done nothing else. -/
theorem faultEntryIsPrecise : Obligations.FaultEntryIsPrecise := by
  refine ⟨fun _ _ _ => rfl, fun i s t h hv ht => ?_⟩
  cases exec_records h with
  | keeps hsame => simp [hsame, hv] at ht
  | entry hc heq => exact ⟨_, _, hc, heq⟩

/-- Settles O11: instructions and register writes by what they do while a fault is recorded, the other inputs by the
registers they leave, and a power-on by the reset it makes. -/
theorem faultedMachineTakesNoStep : Obligations.FaultedMachineTakesNoStep := by
  refine fun s hv => ⟨fun i hi => exec_of_faulted hv hi, fun who r v rest hact =>
    ⟨fun h => ?write, fun h => ?read⟩, fun hp t h => step_sameOwe hv hp h, fun hp => ?powerOn⟩
  case write =>
    rw [(step_host s who _ rest h).1 hact, State.hostAct_write]
    exact State.writeReg_of_faulted { s with inputs := rest } who hv r v
  case read =>
    rw [(step_host s who _ rest h).1 hact]
    exact State.hostAct_read _ who r
  case powerOn =>
    obtain ⟨rest, hstep⟩ := step_of_powersOn s hp
    exact ⟨_, hstep, rfl⟩

end Sys2Proof.Machine
end

section
/-! PROOF. O19 and O47: the boot to the clean-entry state, which CRC8 keeps (70_reset_and_hazards.md R305, R306), and
what a power-on reset leaves (R300, R301). -/

namespace Sys2Proof.Machine

section
variable {s t : State}

/-! ### The boot (70_reset_and_hazards.md R305) -/

/-- Bits 11 to 0 are all of a configuration word that R252 admits: its bits 31 to 12 are 0. -/
theorem setWidth_extractLsb'_of_high_eq_zero {c : Word} (h : c.extractLsb' 12 20 = 0) :
    (c.extractLsb' 0 12).setWidth 32 = c :=
  calc (c.extractLsb' 0 12).setWidth 32
    _ = c.extractLsb' 12 20 ++ c.extractLsb' 0 12 := by
      rw [h]
      exact BitVec.setWidth_eq_append (by decide)
    _ = c := by rw [BitVec.extractLsb'_append_extractLsb'_eq_extractLsb' (by decide), BitVec.extractLsb'_eq_self]

/-- START reaches Ready0 from a machine at rest in STOP (43_lifecycle.md R251, R252). -/
theorem exec_start_ready0 (hs : s.IssueReady) (hstop : s.status.state = .stop) (hop : s.status.op = .none)
    (hphase : s.search.phase = .idle) (hput : s.put = none) (hbsm : s.stuck.bsm = false)
    (hc : s.configValid s.arg0 = true) : ∃ t, exec .start s = .next t ∧ t.Ready0 := by
  obtain ⟨hv, hw⟩ := hs
  have hchecks := State.configValid_iff.1 hc
  obtain ⟨-, -, -, accepted⟩ := startBindsAValidConfiguration s hv
  obtain ⟨c, hbound, hlow, hexec⟩ := accepted hw hstop hchecks
  obtain ⟨-, -, -, -, -, -, hhigh⟩ := hchecks
  have hword : (c.extractLsb' 0 12).setWidth 32 = s.arg0 := by rw [hlow, setWidth_extractLsb'_of_high_eq_zero hhigh]
  exact ⟨_, hexec, rfl, hop, hw, hphase, rfl, rfl, rfl, rfl, hv, hbound, hword ▸ hc, hput, hbsm⟩

/-! ### CRC8 (40_crc8.md R141) -/

/-- A CRC8 that records no fault changes RESULT only. -/
theorem exec_crc8_of_no_fault (hs : s.IssueReady) (h : exec .crc8 s = .next t) (ht : t.fault.valid = false) :
    ∃ r, t = { s with result := r } := by
  obtain ⟨hv, hw⟩ := hs
  obtain ⟨-, badCount, badBuffer, accepted⟩ := crc8ReturnsTheBufferChecksum s hv
  by_cases hmax : s.arg1.toNat ≤ s.params.countMax
  · by_cases hbuf : s.arg1.toNat = 0 ∨ s.validRange s.arg0.toNat s.arg1.toNat = true
    · cases (accepted hw hmax hbuf).symm.trans h
      exact ⟨_, rfl⟩
    · obtain ⟨hpos, hvalid⟩ := not_or.1 hbuf
      cases (badBuffer hw hmax hpos hvalid).symm.trans h
      simp at ht
  · cases (badCount hw (not_le.1 hmax)).symm.trans h
    simp at ht

/-! ### Power-on reset (70_reset_and_hazards.md R300) -/

/-- Nothing holds a power-on reset back: it arrives where it is the first input. -/
theorem step_powerOn {rest : List Input} (h : s.inputs = .powerOn :: rest) :
    step s = .next (State.powerOn { s with inputs := rest }) :=
  step_head s .powerOn rest h rfl

theorem FaultReg.word_clear : FaultReg.clear.word = 0 := by decide

theorem PgCtl.word_idle : PgCtl.idle.word = 0 := by decide

/-- The reset state is a power-on of itself. -/
theorem State.powerOn_reset : State.reset.powerOn = State.reset := rfl

end

/-! ### The obligations -/

/-- Settles O19: OBJINIT leaves the machine at rest in STOP, and what START does there is Ready0; a CRC8 without a fault
writes RESULT, of which Ready0 does not speak. -/
theorem bootReachesReady0 : Obligations.BootReachesReady0 := by
  refine ⟨fun s hs huninit hput hbsm hc => ?boot, fun s t hs h ht => ?crc8⟩
  case boot =>
    obtain ⟨hv, hw⟩ := hs
    obtain ⟨-, -, accepted⟩ := objinitSetsEveryField s hv
    have hobjinit : exec .objinit s = .next s.objinit := accepted hw huninit
    obtain ⟨t, hstart, ht⟩ := exec_start_ready0 (s := s.objinit) ⟨hv, rfl⟩ rfl rfl rfl hput hbsm hc
    exact ⟨t, by rw [execAll_of_next hobjinit, execAll_of_next hstart, execAll], ht⟩
  case crc8 =>
    obtain ⟨r, rfl⟩ := exec_crc8_of_no_fault hs.issueReady h ht
    exact hs

/-- Settles O47: the machine after the step and the reset state are both the power-on of some state. -/
theorem powerOnResetValues : Obligations.PowerOnResetValues := by
  refine fun s rest h => ⟨_, step_powerOn h, rfl, rfl, rfl, rfl, rfl, rfl,
    fun who hstuck hhalted => ⟨hstuck, hhalted, nofun⟩, fun u hu => ?values⟩
  obtain ⟨v, rfl⟩ : ∃ v : State, u = v.powerOn := by
    rcases List.mem_pair.1 hu with rfl | rfl
    · exact ⟨_, rfl⟩
    · exact ⟨_, State.powerOn_reset.symm⟩
  exact ⟨rfl, rfl, rfl, FaultReg.word_clear, PgCtl.word_idle, BitVec.getLsbD_zero, rfl⟩

end Sys2Proof.Machine
end
